-- ==== Sys2Proof/Word.lean ====
section
/-! DEFINITION. The word types of the codec block and the value of a bit vector (00_scope.md R6 to R9). Bit i of a
word has weight 2^i and bit 0 is the least significant bit (R6), which is how `BitVec` numbers its bits. -/

namespace Sys2Proof

/-- A control or monitor word: `XLEN` = 32 bits (00_scope.md table P). -/
abbrev Word := BitVec 32

/-- A voltage code, format V16 (30_encoding.md R81): `CODE_W` = 16 bits. -/
abbrev Code := BitVec 16

/-- Eight bits: the divider counter and one byte of the opaque bitstream. -/
abbrev Byte := BitVec 8

/-- Four bits: the sticky field and the one-hot field (`STICKY_W`, `STATE_W`). -/
abbrev Nibble := BitVec 4

/-- An operation selector op[4:0] (30_encoding.md R80). -/
abbrev Selector := BitVec 5

/-- A voltage in volts: an exact rational (00_scope.md R9, decision D1). -/
abbrev Volt := Rat

end Sys2Proof
end

