-- ==== Sys2Proof/Records.lean ====
section
/-! DEFINITION. The operand and result records of the operations (10_state.md section 2), the outcomes an operation
returns to the host (00_scope.md R11, 60_exceptions.md R260), a request as the host presents it (30_encoding.md R80),
and the transport's calls and answers (20_memory.md section 3). Where the spec numbers delays, voltages and states
1 to 4, the index here is one less: `Fin 4` value 0 is state 1. -/

namespace Sys2Proof

/-- `SS`, the session state (10_state.md R21). -/
inductive SessionState where
  | unbound
  | deployed
  | configured
  deriving DecidableEq, Repr

/-- `HANDLE`'s content: an opaque token the block never inspects (10_state.md R25). -/
structure Handle where
  token : Nat
  deriving DecidableEq, Repr, Inhabited

/-- A SequencerConfig: ten fields, integers unbounded, voltages exact (10_state.md R26). -/
structure SequencerConfig where
  /-- `delay[k]`, hold time of state k in cycles. -/
  delay  : Vector Int 4
  /-- `volt[k]`, analog output level of state k. -/
  volt   : Vector Volt 4
  enable : Bool
  /-- The clock-divider selector. -/
  div    : Int
  deriving DecidableEq, Repr

/-- A ControlWordSet `CW[0..8]` (10_state.md R28). -/
abbrev ControlWordSet := Vector Word 9

/-- Four raw monitor words `raw[0..3]` (10_state.md R29). -/
abbrev RawWords := Vector Word 4

/-- A MonitorSnapshot (10_state.md R29). -/
structure MonitorSnapshot where
  /-- One of 0 (idle/unknown) and 1 to 4. -/
  currentState : Fin 5
  sticky       : Nibble
  dacVoltage   : Volt
  divCounter   : Byte
  raw          : RawWords
  deriving DecidableEq, Repr

/-- The nine checked fields of a SequencerConfig, as a `ValidationError` names them (60_exceptions.md R262). -/
inductive Field where
  | delay (k : Fin 4)
  | volt (k : Fin 4)
  | div
  deriving DecidableEq, Repr

/-- The error kinds and what each carries (60_exceptions.md R260). -/
inductive OpError where
  /-- VENC outside the voltage domain; carries the voltage (R261). -/
  | rangeError (v : Volt)
  /-- A config field out of range; carries the first violated field's name (R262). -/
  | validationError (f : Field)
  /-- A DevWrite or DevRead answered `terr` (R263). -/
  | transportError
  /-- A transport call answered `tout` (R264). -/
  | transportTimeout
  /-- TDeploy answered `fail` (R265). -/
  | deploymentError
  /-- The session state does not admit the operation; carries `SS` (R267). -/
  | notReady (ss : SessionState)
  /-- The Device Registry's kind, listed for completeness: no operation of the block raises it (R266). -/
  | notFoundError
  deriving DecidableEq, Repr

/-- What `ok` carries, by operation (30_encoding.md table S). -/
inductive Result where
  /-- DEPLOY, CONFIGURE, ENABLE, DISABLE: no result. -/
  | nothing
  /-- VENC: a voltage code. -/
  | code (c : Code)
  /-- VDEC, XDAC: a voltage. -/
  | volt (v : Volt)
  /-- PACK0, PACKD, PACKV, W0EN, W0DIS: a control word. -/
  | word (w : Word)
  /-- CBUILD: nine control words. -/
  | wordSet (cw : ControlWordSet)
  /-- XSTICKY, OHENC: four bits. -/
  | nibble (b : Nibble)
  /-- XSTATE: a state number 0 to 4. -/
  | stateNumber (s : Fin 5)
  /-- XDIV: eight bits. -/
  | byte (b : Byte)
  /-- SDEC and STATUS: a snapshot. -/
  | snapshot (m : MonitorSnapshot)
  /-- STATUS without a live handle: the marker Disconnected (60_exceptions.md R268). -/
  | disconnected
  /-- RELEASE: whether the hardware was relinquished (decision D34). -/
  | relinquished (b : Bool)
  deriving DecidableEq, Repr

/-- The outcome of an operation as the host receives it: `ok(result)` or `err(kind, info)` (00_scope.md R11). The
third outcome, `refused`, ends the run and is `Host.Outcome.refused` in this model. -/
inductive Reply where
  | ok (r : Result)
  | err (e : OpError)
  deriving DecidableEq, Repr

/-- One operand value at the block's port. -/
inductive Operand where
  | volt (v : Volt)
  | code (c : Code)
  | word (w : Word)
  | int (n : Int)
  | bool (b : Bool)
  | config (cfg : SequencerConfig)
  | raw (r : RawWords)
  /-- An opaque operand: DEPLOY's slot or eviction policy (10_state.md R46). -/
  | token (n : Nat)
  /-- DEPLOY's bitstream: opaque bytes. -/
  | bytes (b : List Byte)
  deriving DecidableEq, Repr

/-- A request in the one format OP5: a 5-bit selector followed by the operands, passed as values (30_encoding.md R80). -/
structure Request where
  sel      : Selector
  operands : List Operand
  deriving DecidableEq, Repr

/-- A call of the transport, as the block issues it (20_memory.md R60 to R62; the handle goes with every call, R25). -/
inductive Call where
  | deploy (slot : Nat) (bitstream : List Byte) (policy : Nat)
  | write (h : Handle) (i : Fin 9) (w : Word)
  | read (h : Handle) (j : Fin 4)
  | release (h : Handle)
  deriving DecidableEq, Repr

/-- What the device's thirteen registers hold at a moment (20_memory.md R50). -/
structure DeviceRegs where
  cr : Vector Word 9
  mr : Vector Word 4
  deriving DecidableEq, Repr, Inhabited

/-- The transport's answer to TDeploy (20_memory.md R62). With each comes what the device holds after the call: after
`ok` any values (10_state.md R45); after `fail` and `tout` any values too, since it may or may not have been loaded
(43_session_ops.md R221, 70_reset_and_hazards.md R311, 93_implementation_defined.md U18). -/
inductive DeployAnswer where
  | ok (h : Handle) (dev : DeviceRegs)
  | fail (dev : DeviceRegs)
  | tout (dev : DeviceRegs)
  deriving DecidableEq, Repr, Inhabited

/-- What the device holds after the call. -/
def DeployAnswer.device : DeployAnswer → DeviceRegs
  | .ok _ dev => dev
  | .fail dev => dev
  | .tout dev => dev

/-- The transport's answer to DevWrite (20_memory.md R60). A failed write has landed or not, which the block cannot
see: `landed`. -/
inductive WriteAnswer where
  | ok
  | terr (landed : Bool)
  | tout (landed : Bool)
  deriving DecidableEq, Repr, Inhabited

/-- The transport's answer to DevRead (20_memory.md R61). With `ok` comes what the device has put in its monitor
registers by the moment of the read: any four words (10_state.md R39). -/
inductive ReadAnswer where
  | ok (mr : Vector Word 4)
  | terr
  | tout
  deriving DecidableEq, Repr, Inhabited

/-- The transport's answer to TRelease (20_memory.md R62). With each comes what the device holds after the call: any
values (70_reset_and_hazards.md R311, R314, 93_implementation_defined.md U18). -/
inductive ReleaseAnswer where
  | ok (dev : DeviceRegs)
  | fail (dev : DeviceRegs)
  deriving DecidableEq, Repr, Inhabited

/-- What the device holds after the call. -/
def ReleaseAnswer.device : ReleaseAnswer → DeviceRegs
  | .ok dev => dev
  | .fail dev => dev

/-- The hardware was relinquished: `r = ok` (43_session_ops.md R226). -/
def ReleaseAnswer.relinquished : ReleaseAnswer → Bool
  | .ok _ => true
  | .fail _ => false

end Sys2Proof
end

