-- ==== Sys2Proof/Syntax.lean ====
section
/-! DEFINITION. The twenty operations (30_encoding.md R80, table S), one constructor per row of the opcode table, with
their operands as values. -/

namespace Sys2Proof

/-- An operation of the codec block with its operands. -/
inductive Instr where
  /-- VENC v (40_voltage_codec.md R121). -/
  | venc (v : Volt)
  /-- VDEC c (40_voltage_codec.md R123). -/
  | vdec (c : Code)
  /-- PACK0 enable, div with div in 0..255 (41_control_packer.md R152). -/
  | pack0 (enable : Bool) (div : Nat)
  /-- PACKD d with d in 0..127 (41_control_packer.md R153). -/
  | packd (d : Nat)
  /-- PACKV c (41_control_packer.md R154). -/
  | packv (c : Code)
  /-- CBUILD cfg, cfg valid or not (41_control_packer.md R155). -/
  | cbuild (cfg : SequencerConfig)
  /-- W0EN w (41_control_packer.md R157). -/
  | w0en (w : Word)
  /-- W0DIS w (41_control_packer.md R158). -/
  | w0dis (w : Word)
  /-- XDAC w (42_status_decoder.md R191). -/
  | xdac (w : Word)
  /-- XSTICKY w (42_status_decoder.md R192). -/
  | xsticky (w : Word)
  /-- XSTATE w (42_status_decoder.md R193). -/
  | xstate (w : Word)
  /-- XDIV w (42_status_decoder.md R194). -/
  | xdiv (w : Word)
  /-- SDEC raw (42_status_decoder.md R195). -/
  | sdec (raw : RawWords)
  /-- OHENC s with s in 0..4 (42_status_decoder.md R198). -/
  | ohenc (s : Nat)
  /-- DEPLOY slot, bitstream, policy, all opaque (43_session_ops.md R221). -/
  | deploy (slot : Nat) (bitstream : List Byte) (policy : Nat)
  /-- CONFIGURE cfg, cfg valid or not (43_session_ops.md R222). -/
  | configure (cfg : SequencerConfig)
  /-- ENABLE (43_session_ops.md R223). -/
  | enable
  /-- DISABLE (43_session_ops.md R224). -/
  | disable
  /-- STATUS (43_session_ops.md R225). -/
  | status
  /-- RELEASE (43_session_ops.md R226). -/
  | release
  deriving DecidableEq, Repr

end Sys2Proof
end

