-- ==== Sys2Proof/WellFormed.lean ====
section
/-! DEFINITION. Which terms of `Instr` are operations that can be presented: the operands "in range by type" of PACK0,
PACKD and OHENC (41_control_packer.md R152, R153, 42_status_decoder.md R198). Every other operand domain is its type. -/

namespace Sys2Proof

/-- The operand ranges the spec fixes by type. -/
def Instr.wf : Instr → Bool
  | .pack0 _ div  => decide (div ≤ 255)
  | .packd d      => decide (d ≤ 127)
  | .ohenc s      => decide (s ≤ 4)
  | .venc _       => true
  | .vdec _       => true
  | .packv _      => true
  | .cbuild _     => true
  | .w0en _       => true
  | .w0dis _      => true
  | .xdac _       => true
  | .xsticky _    => true
  | .xstate _     => true
  | .xdiv _       => true
  | .sdec _       => true
  | .deploy _ _ _ => true
  | .configure _  => true
  | .enable       => true
  | .disable      => true
  | .status       => true
  | .release      => true

/-- The operation can be presented at the block's port. -/
abbrev Instr.WellFormed (i : Instr) : Prop := i.wf = true

end Sys2Proof
end

