-- ==== Sys2Proof/Decode.lean ====
section
/-! DEFINITION. Decoding a request of format OP5 (30_encoding.md R80, table S): total, rejecting by name. After it the
encoder, written from the same table, and the opcode table's words as requests. The selector is the only encoded part
of an operation; operands are values at the port, and an operand list of another shape, or an integer outside the range
its type has, cannot be presented (41_control_packer.md R152, R153, 42_status_decoder.md R198; log entry 3). -/

namespace Sys2Proof

/-- Why a request is not decoded. -/
inductive Reject where
  /-- One of the twelve selectors that select nothing (30_encoding.md R97). -/
  | unassignedSelector
  /-- Operands that are not those of the selected operation. -/
  | operandsNotPresentable
  deriving DecidableEq, Repr

/-- One `Volt` operand. -/
def takeVolt (mk : Volt → Instr) : List Operand → Option Instr
  | [.volt v] => some (mk v)
  | _ => none

/-- One 16-bit operand. -/
def takeCode (mk : Code → Instr) : List Operand → Option Instr
  | [.code c] => some (mk c)
  | _ => none

/-- One 32-bit operand. -/
def takeWord (mk : Word → Instr) : List Operand → Option Instr
  | [.word w] => some (mk w)
  | _ => none

/-- One integer operand in 0..`top`. -/
def takeInt (top : Nat) (mk : Nat → Instr) : List Operand → Option Instr
  | [.int n] => if 0 ≤ n ∧ n ≤ (top : Int) then some (mk n.toNat) else none
  | _ => none

/-- A Boolean and an integer operand in 0..`top`. -/
def takeBoolInt (top : Nat) (mk : Bool → Nat → Instr) : List Operand → Option Instr
  | [.bool b, .int n] => if 0 ≤ n ∧ n ≤ (top : Int) then some (mk b n.toNat) else none
  | _ => none

/-- One SequencerConfig operand. -/
def takeConfig (mk : SequencerConfig → Instr) : List Operand → Option Instr
  | [.config cfg] => some (mk cfg)
  | _ => none

/-- Four raw monitor words. -/
def takeRaw (mk : RawWords → Instr) : List Operand → Option Instr
  | [.raw r] => some (mk r)
  | _ => none

/-- DEPLOY's slot, bitstream and policy. -/
def takeDeploy (mk : Nat → List Byte → Nat → Instr) : List Operand → Option Instr
  | [.token slot, .bytes bitstream, .token policy] => some (mk slot bitstream policy)
  | _ => none

/-- No operands. -/
def takeNone (i : Instr) : List Operand → Option Instr
  | [] => some i
  | _ => none

/-- Table S: the unit is op[4:3] and the function inside it op[2:0] (30_encoding.md R80). The twelve other selectors
select nothing (R97). -/
def operandReader (sel : Selector) : Option (List Operand → Option Instr) :=
  match sel.toNat with
  | 0b00000 => some (takeVolt .venc)
  | 0b00001 => some (takeCode .vdec)
  | 0b01000 => some (takeBoolInt 255 .pack0)
  | 0b01001 => some (takeInt 127 .packd)
  | 0b01010 => some (takeCode .packv)
  | 0b01011 => some (takeConfig .cbuild)
  | 0b01100 => some (takeWord .w0en)
  | 0b01101 => some (takeWord .w0dis)
  | 0b10000 => some (takeWord .xdac)
  | 0b10001 => some (takeWord .xsticky)
  | 0b10010 => some (takeWord .xstate)
  | 0b10011 => some (takeWord .xdiv)
  | 0b10100 => some (takeRaw .sdec)
  | 0b10101 => some (takeInt 4 .ohenc)
  | 0b11000 => some (takeDeploy .deploy)
  | 0b11001 => some (takeConfig .configure)
  | 0b11010 => some (takeNone .enable)
  | 0b11011 => some (takeNone .disable)
  | 0b11100 => some (takeNone .status)
  | 0b11101 => some (takeNone .release)
  | _ => none

/-- Decode a request, total on every request. -/
def decode (r : Request) : Except Reject Instr :=
  match operandReader r.sel with
  | none => .error .unassignedSelector
  | some read =>
    match read r.operands with
    | none => .error .operandsNotPresentable
    | some i => .ok i

/-- The request of an operation: its selector of table S and its operands in the table's order. -/
def encode : Instr → Request
  | .venc v         => ⟨0b00000, [.volt v]⟩
  | .vdec c         => ⟨0b00001, [.code c]⟩
  | .pack0 e d      => ⟨0b01000, [.bool e, .int d]⟩
  | .packd d        => ⟨0b01001, [.int d]⟩
  | .packv c        => ⟨0b01010, [.code c]⟩
  | .cbuild cfg     => ⟨0b01011, [.config cfg]⟩
  | .w0en w         => ⟨0b01100, [.word w]⟩
  | .w0dis w        => ⟨0b01101, [.word w]⟩
  | .xdac w         => ⟨0b10000, [.word w]⟩
  | .xsticky w      => ⟨0b10001, [.word w]⟩
  | .xstate w       => ⟨0b10010, [.word w]⟩
  | .xdiv w         => ⟨0b10011, [.word w]⟩
  | .sdec raw       => ⟨0b10100, [.raw raw]⟩
  | .ohenc s        => ⟨0b10101, [.int s]⟩
  | .deploy s b p   => ⟨0b11000, [.token s, .bytes b, .token p]⟩
  | .configure cfg  => ⟨0b11001, [.config cfg]⟩
  | .enable         => ⟨0b11010, []⟩
  | .disable        => ⟨0b11011, []⟩
  | .status         => ⟨0b11100, []⟩
  | .release        => ⟨0b11101, []⟩

/-- A config whose every field is zero or false. -/
def zeroConfig : SequencerConfig :=
  { delay := #v[0, 0, 0, 0], volt := #v[0, 0, 0, 0], enable := false, div := 0 }

/-- The operands of a selector, each at its zero: what stands for "operand words of zeros" where only a table word is
given (log entry 4). -/
def zeroOperands (sel : Selector) : List Operand :=
  match sel.toNat with
  | 0b00000 => [.volt 0]
  | 0b00001 => [.code 0]
  | 0b01000 => [.bool false, .int 0]
  | 0b01001 => [.int 0]
  | 0b01010 => [.code 0]
  | 0b01011 => [.config zeroConfig]
  | 0b01100 => [.word 0]
  | 0b01101 => [.word 0]
  | 0b10000 => [.word 0]
  | 0b10001 => [.word 0]
  | 0b10010 => [.word 0]
  | 0b10011 => [.word 0]
  | 0b10100 => [.raw #v[0, 0, 0, 0]]
  | 0b10101 => [.int 0]
  | 0b11000 => [.token 0, .bytes [], .token 0]
  | 0b11001 => [.config zeroConfig]
  | _ => []

/-- The request an opcode-table word of `nbits` bits stands for: its selector is bits 4:0, the bits the table's mask
0x1F names, and its operands are at their zeros (log entry 4). -/
def tableRequest (nbits w : Nat) : Request :=
  let sel : Selector := BitVec.ofNat 5 (w % 2 ^ nbits)
  ⟨sel, zeroOperands sel⟩

/-- The operation the decoder reads from an opcode-table word. -/
def decodeTableWord (nbits w : Nat) : Option Instr :=
  match decode (tableRequest nbits w) with
  | .ok i => some i
  | .error _ => none

end Sys2Proof
end

