-- ==== Sys2Proof/Config.lean ====
section
/-! DEFINITION. What is fixed for one machine: the parameters of 00_scope.md table P that the spec decides and offers
to vary (their default values are `Machine.params`), and the free values: constants without a body, of which nothing
can be proved (log entry 5). -/

namespace Sys2Proof

/-- `ROUND_TIES` (00_scope.md R10, decision D2). -/
inductive Ties where
  | even
  | away
  deriving DecidableEq, Repr

/-- The parameters of table P with more than one reading. -/
structure Params where
  /-- `ROUND_TIES`: the tie rule of `rnd` (R10). -/
  roundTies        : Ties
  /-- `ENC_NEG_SCALE`: the scale of negative voltages on encode (40_voltage_codec.md R121, R129). -/
  encNegScale      : Nat
  /-- `VALIDATION_ORDER` (41_control_packer.md R151). -/
  validationOrder  : List Field
  /-- `CFG_WRITE_ORDER` (43_session_ops.md R222). -/
  cfgWriteOrder    : List (Fin 9)
  /-- `STATUS_READ_ORDER` (43_session_ops.md R225). -/
  statusReadOrder  : List (Fin 4)
  /-- `ALLOW_RECONFIGURE` (43_session_ops.md R222). -/
  allowReconfigure : Bool
  deriving DecidableEq, Repr

/-- The order `VALIDATION_ORDER` has by decision D6: delays, voltages, divider, each by ascending state number. -/
def allFields : List Field :=
  [.delay 0, .delay 1, .delay 2, .delay 3, .volt 0, .volt 1, .volt 2, .volt 3, .div]

/-- A legal choice of the parameters: one of the two scales, and each order names everything exactly once. -/
abbrev Params.Legal (p : Params) : Prop :=
  (p.encNegScale = 32768 ∨ p.encNegScale = 32767) ∧
  p.validationOrder.Perm allFields ∧
  p.cfgWriteOrder.Perm (List.finRange 9) ∧
  p.statusReadOrder.Perm (List.finRange 4)

/-- `CR_INDEX(i)`: the transport's number of control register i (20_memory.md R52). -/
def Config.crIndex (i : Fin 9) : Nat := i.val

/-- `MR_INDEX(j)`: the transport's number of monitor register j, OPEN (20_memory.md R52). -/
opaque Config.mrIndex : Fin 4 → Nat

/-- The transport's answer to TDeploy where `State.deployAnswers` is used up: a free value. -/
opaque Config.freeDeployAnswer : Nat → DeployAnswer

/-- The transport's answer to DevWrite where `State.writeAnswers` is used up: a free value. -/
opaque Config.freeWriteAnswer : Nat → WriteAnswer

/-- The transport's answer to DevRead where `State.readAnswers` is used up: a free value. -/
opaque Config.freeReadAnswer : Nat → ReadAnswer

/-- The transport's answer to TRelease where `State.releaseAnswers` is used up: a free value. -/
opaque Config.freeReleaseAnswer : Nat → ReleaseAnswer

/-- A word the spec leaves unspecified: a free value. -/
opaque Config.freeWord : Nat → Word

end Sys2Proof
end

