-- ==== Sys2Proof/Machine/Params.lean ====
section
/-! DEFINITION. The parameters of table P at the values the spec gives them (00_scope.md R5; log entry 12). -/

namespace Sys2Proof.Machine

/-- The spec's defaults: decisions D2, D3, D6, D12, D13, D11. -/
def params : Params where
  roundTies        := .even
  encNegScale      := 32768
  validationOrder  := allFields
  cfgWriteOrder    := [0, 1, 2, 3, 4, 5, 6, 7, 8]
  statusReadOrder  := [0, 1, 2, 3]
  allowReconfigure := true

end Sys2Proof.Machine
end

