-- ==== Sys2Proof/Machine/Operands.lean ====
section
/-! DEFINITION. The operand domains and VALIDATE (10_state.md R27, 41_control_packer.md R151). -/

namespace Sys2Proof.Machine

/-- -5 <= v <= 5, both bounds included (`V_FS`, 10_state.md R27). -/
def inVoltRange (v : Volt) : Bool := decide (-5 ≤ v) && decide (v ≤ 5)

/-- 0 <= d <= 127 (10_state.md R27). -/
def inDelayRange (d : Int) : Bool := decide (0 ≤ d) && decide (d ≤ 127)

/-- 0 <= d <= 255 (10_state.md R27). -/
def inDivRange (d : Int) : Bool := decide (0 ≤ d) && decide (d ≤ 255)

/-- One field of a config is in its range (10_state.md R27). -/
def fieldOk (cfg : SequencerConfig) : Field → Bool
  | .delay k => inDelayRange cfg.delay[k]
  | .volt k => inVoltRange cfg.volt[k]
  | .div => inDivRange cfg.div

/-- The config is valid (10_state.md R27). -/
def validConfig (cfg : SequencerConfig) : Bool := allFields.all (fieldOk cfg)

/-- `VALIDATE(cfg)`: the first violated field in the validation order, if there is one (41_control_packer.md R151). -/
def firstViolated (p : Params) (cfg : SequencerConfig) : Option Field :=
  p.validationOrder.find? (fun f => !fieldOk cfg f)

end Sys2Proof.Machine
end

