-- ==== Sys2Proof/Machine/State.lean ====
section
/-! DEFINITION. The state of the machine (10_state.md sections 1 and 3): the codec block's four elements, the device's
registers, and the model's own fields for what crosses the block's ports (log entries 1, 5, 10). The reasons a step
can stop. The reset state. -/

namespace Sys2Proof.Machine

/-- The state: plain data. -/
structure State where
  /-- `SS` (10_state.md R21). -/
  ss             : SessionState
  /-- `HANDLE` (10_state.md R25). -/
  handle         : Option Handle
  /-- `CFG_LAST` (10_state.md R22). -/
  cfgLast        : Option SequencerConfig
  /-- `W0C`, which has meaning only while `SS = Configured` (10_state.md R23). -/
  w0c            : Word
  /-- `DEV.CR[0..8]`, hidden from the block (10_state.md R30, R43). -/
  cr             : Vector Word 9
  /-- `MR[0..3]`, under the device's control (10_state.md R34, R39); what the device last put there. -/
  mr             : Vector Word 4
  /-- The host's requests the block has not begun, oldest first (00_scope.md R13). -/
  pending        : List Request
  /-- The oracle's coming answers to TDeploy (10_state.md R46). -/
  deployAnswers  : List DeployAnswer
  /-- The oracle's coming answers to DevWrite (10_state.md R46). -/
  writeAnswers   : List WriteAnswer
  /-- The oracle's coming answers to DevRead (10_state.md R46). -/
  readAnswers    : List ReadAnswer
  /-- The oracle's coming answers to TRelease (10_state.md R46). -/
  releaseAnswers : List ReleaseAnswer
  /-- How many free values have been drawn (log entry 5). -/
  draws          : Nat
  /-- The outcome the last operation returned to the host (00_scope.md R11). -/
  reply          : Option Reply
  /-- The transport calls the last operation issued, oldest first. -/
  calls          : List Call
  deriving DecidableEq, Repr

/-- Why the machine stops with a fault. -/
inductive Fault where
  /-- A transport call with `HANDLE = none`, raised by CONFIGURE, ENABLE, DISABLE, STATUS and RELEASE in a state where
  `SS` says a handle is present: 20_memory.md R60, R61 allow the call "only while HANDLE is present". No reachable
  state meets it (10_state.md R24). Safe. -/
  | noHandle
  deriving DecidableEq, Repr

/-- Why a request has no meaning: the spec's `refused` (00_scope.md R11, 60_exceptions.md R268). -/
inductive Refusal where
  /-- An instruction with no meaning in this model, by its mnemonic; raised by no arm. Safe. -/
  | notModelled (mnemonic : String)
  /-- DEPLOY while `SS` is not Unbound (43_session_ops.md R221, decision D10). Safe. -/
  | deployNotUnbound
  /-- CONFIGURE while Configured, with `ALLOW_RECONFIGURE = false` (43_session_ops.md R222, decision D11). Safe. -/
  | reconfigureNotAllowed
  /-- A selector that selects nothing, raised by the step (30_encoding.md R97, decision D20). Safe. -/
  | unassignedSelector (sel : Selector)
  /-- Operands that cannot be presented for the selector, raised by the step (log entry 3). Safe. -/
  | operandsNotPresentable (sel : Selector)
  deriving DecidableEq, Repr

/-- The machine right after power-up: `SS = Unbound`, `HANDLE = none`, `CFG_LAST = none` (10_state.md R44). `W0C`,
`DEV.CR` and `MR` are unspecified there (R44, R45): zero is the model's choice (log entry 9). -/
def State.reset : State where
  ss             := .unbound
  handle         := none
  cfgLast        := none
  w0c            := 0
  cr             := #v[0, 0, 0, 0, 0, 0, 0, 0, 0]
  mr             := #v[0, 0, 0, 0]
  pending        := []
  deployAnswers  := []
  writeAnswers   := []
  readAnswers    := []
  releaseAnswers := []
  draws          := 0
  reply          := none
  calls          := []

end Sys2Proof.Machine
end

