-- ==== Sys2Proof/Machine/Ops.lean ====
section
/-! DEFINITION. The shared operations: how an operation begins and returns its outcome (00_scope.md R11), returning an
error being the ONE place where an exception is taken (60_exceptions.md R271), and the four access primitives with
every answer the transport can give (20_memory.md section 3). There is no return from an error (60_exceptions.md R272). -/

namespace Sys2Proof.Machine

/-- An operation begins: no transport call has been issued by it yet. -/
def State.begin (s : State) : State := { s with calls := [] }

/-- `return x`: the operation ends with `ok(x)` (00_scope.md R11). -/
def State.answer (r : Result) (s : State) : State := { s with reply := some (.ok r) }

/-- `raise K(info)`: the operation ends with `err(K, info)` and nothing else is written; the block's state keeps its
pre-call value, there is no vector, no saved program counter, no mode change (00_scope.md R11, 60_exceptions.md R271). -/
def State.fail (e : OpError) (s : State) : State := { s with reply := some (.err e) }

/-- A pure operation ends with its result, having touched nothing (00_scope.md R13). -/
def State.pureAnswer (r : Result) (s : State) : State := s.begin.answer r

/-- A transport call is issued. -/
def State.record (c : Call) (s : State) : State := { s with calls := s.calls ++ [c] }

/-- The next answer to TDeploy: from the list, or a free value. -/
def State.nextDeployAnswer (s : State) : DeployAnswer :=
  match s.deployAnswers with
  | a :: _ => a
  | [] => Config.freeDeployAnswer s.draws

/-- The answer to TDeploy has been used. -/
def State.dropDeployAnswer (s : State) : State :=
  match s.deployAnswers with
  | _ :: rest => { s with deployAnswers := rest }
  | [] => { s with draws := s.draws + 1 }

/-- The next answer to DevWrite: from the list, or a free value. -/
def State.nextWriteAnswer (s : State) : WriteAnswer :=
  match s.writeAnswers with
  | a :: _ => a
  | [] => Config.freeWriteAnswer s.draws

/-- The answer to DevWrite has been used. -/
def State.dropWriteAnswer (s : State) : State :=
  match s.writeAnswers with
  | _ :: rest => { s with writeAnswers := rest }
  | [] => { s with draws := s.draws + 1 }

/-- The next answer to DevRead: from the list, or a free value. -/
def State.nextReadAnswer (s : State) : ReadAnswer :=
  match s.readAnswers with
  | a :: _ => a
  | [] => Config.freeReadAnswer s.draws

/-- The answer to DevRead has been used. -/
def State.dropReadAnswer (s : State) : State :=
  match s.readAnswers with
  | _ :: rest => { s with readAnswers := rest }
  | [] => { s with draws := s.draws + 1 }

/-- The next answer to TRelease: from the list, or a free value. -/
def State.nextReleaseAnswer (s : State) : ReleaseAnswer :=
  match s.releaseAnswers with
  | a :: _ => a
  | [] => Config.freeReleaseAnswer s.draws

/-- The answer to TRelease has been used. -/
def State.dropReleaseAnswer (s : State) : State :=
  match s.releaseAnswers with
  | _ :: rest => { s with releaseAnswers := rest }
  | [] => { s with draws := s.draws + 1 }

/-- `DEV.CR[i] <- w` (10_state.md R30: a write replaces all 32 bits). -/
def State.setCr (i : Fin 9) (w : Word) (s : State) : State := { s with cr := s.cr.set i w }

/-- A failed write: `DEV.CR[i]` is w if it landed, else its old value; no other register changes (20_memory.md R60). -/
def State.setCrIf (landed : Bool) (i : Fin 9) (w : Word) (s : State) : State :=
  if landed then s.setCr i w else s

/-- What DevWrite returns: nothing, or the error its answer raises (60_exceptions.md R263, R264). -/
def writeError : WriteAnswer → Option OpError
  | .ok => none
  | .terr _ => some .transportError
  | .tout _ => some .transportTimeout

/-- The register effect of DevWrite's answer (20_memory.md R60). -/
def State.writeEffect (a : WriteAnswer) (i : Fin 9) (w : Word) (s : State) : State :=
  match a with
  | .ok => s.setCr i w
  | .terr landed => s.setCrIf landed i w
  | .tout landed => s.setCrIf landed i w

/-- `DevWrite(i, w)` (20_memory.md R60): the error it raises, if any, and the state after it. -/
def devWrite (h : Handle) (i : Fin 9) (w : Word) (s : State) : Option OpError × State :=
  (writeError s.nextWriteAnswer,
   ((s.record (.write h i w)).dropWriteAnswer).writeEffect s.nextWriteAnswer i w)

/-- Write the registers of a list in its order, stopping at the first write that fails (43_session_ops.md R222). -/
def writeAll (h : Handle) (cw : ControlWordSet) : List (Fin 9) → State → Option OpError × State
  | [], s => (none, s)
  | i :: rest, s =>
    match devWrite h i cw[i] s with
    | (none, s1) => writeAll h cw rest s1
    | (some e, s1) => (some e, s1)

/-- The device's own move: its monitor registers hold any values (00_scope.md R13, 10_state.md R39). -/
def State.deviceShows (mr : Vector Word 4) (s : State) : State := { s with mr := mr }

/-- `DevRead(j)` (20_memory.md R61): the device has moved by then (R39), the read returns `MR[j]` and itself changes
no register (R56). On a failed read no value is returned. -/
def devRead (h : Handle) (j : Fin 4) (s : State) : Except OpError Word × State :=
  let s1 := (s.record (.read h j)).dropReadAnswer
  match s.nextReadAnswer with
  | .ok mr => (.ok (s1.deviceShows mr).mr[j], s1.deviceShows mr)
  | .terr => (.error .transportError, s1)
  | .tout => (.error .transportTimeout, s1)

/-- Read the monitor registers of a list in its order into `raw`, stopping at the first read that fails
(43_session_ops.md R225). -/
def readAll (h : Handle) : List (Fin 4) → RawWords → State → Except OpError RawWords × State
  | [], raw, s => (.ok raw, s)
  | j :: rest, raw, s =>
    match devRead h j s with
    | (.ok w, s1) => readAll h rest (raw.set j w) s1
    | (.error e, s1) => (.error e, s1)

/-- The device holds any values: they are not the block's doing (10_state.md R45, 93_implementation_defined.md U18;
log entries 6 and 14). -/
def State.deviceHolds (dev : DeviceRegs) (s : State) : State := { s with cr := dev.cr, mr := dev.mr }

/-- `TDeploy(slot, bitstream, policy)` (20_memory.md R62): its answer and the state after the call. Whatever the
answer, the device then holds any values: those that come with it. -/
def tDeploy (slot : Nat) (bitstream : List Byte) (policy : Nat) (s : State) : DeployAnswer × State :=
  (s.nextDeployAnswer,
   ((s.record (.deploy slot bitstream policy)).dropDeployAnswer).deviceHolds s.nextDeployAnswer.device)

/-- `TRelease(h)` (20_memory.md R62): its answer and the state after the call. It writes no register; once released,
the device holds any values: those that come with the answer (70_reset_and_hazards.md R314). -/
def tRelease (h : Handle) (s : State) : ReleaseAnswer × State :=
  (s.nextReleaseAnswer, ((s.record (.release h)).dropReleaseAnswer).deviceHolds s.nextReleaseAnswer.device)

/-- The register number a call carries to the transport (20_memory.md R52). -/
def transportIndex : Call → Option Nat
  | .write _ i _ => some (Config.crIndex i)
  | .read _ j => some (Config.mrIndex j)
  | .deploy _ _ _ => none
  | .release _ => none

end Sys2Proof.Machine
end

