-- ==== Sys2Proof/Machine/Codec.lean ====
section
/-! DEFINITION. The fixed-point voltage codec (40_voltage_codec.md): VENC and VDEC. Both are pure (R120). -/

namespace Sys2Proof.Machine

/-- `rnd(q)`: the nearest integer; halfway, the even one, or under `away` the one farther from zero (00_scope.md R10). -/
def rnd (ties : Ties) (q : Rat) : Int :=
  let f := q.floor
  let r := q - (f : Rat)
  if r < 1 / 2 then f
  else if 1 / 2 < r then f + 1
  else match ties with
    | .even => if f % 2 = 0 then f else f + 1
    | .away => if 0 ≤ q then f + 1 else f

/-- The scaled and rounded voltage k of VENC (40_voltage_codec.md R121): scale 32767 for v >= 0, `ENC_NEG_SCALE` below. -/
def encodeInt (p : Params) (v : Volt) : Int :=
  if 0 ≤ v then rnd p.roundTies (v * 32767 / 5)
  else rnd p.roundTies (v * (p.encNegScale : Rat) / 5)

/-- The 16-bit two's-complement pattern `bv_16(k)` of VENC, without the domain check. -/
def encodeCode (p : Params) (v : Volt) : Code := BitVec.ofInt 16 (encodeInt p v)

/-- `VENC(v)` (40_voltage_codec.md R121): RangeError exactly outside [-5, 5]. -/
def venc (p : Params) (v : Volt) : Except OpError Code :=
  if inVoltRange v then .ok (encodeCode p v) else .error (.rangeError v)

/-- `VDEC(c)` (40_voltage_codec.md R123), total on all 65536 codes. -/
def vdec (c : Code) : Volt :=
  let s : Int := c.toInt
  if s < 0 then (s : Rat) * 5 / 32768 else (s : Rat) * 5 / 32767

/-- VENC v. -/
def execVenc (v : Volt) (s : State) : Host.Outcome State Fault Refusal :=
  match venc params v with
  | .ok c => .next (s.pureAnswer (.code c))
  | .error e => .next (s.begin.fail e)

/-- VDEC c. -/
def execVdec (c : Code) (s : State) : Host.Outcome State Fault Refusal :=
  .next (s.pureAnswer (.volt (vdec c)))

end Sys2Proof.Machine
end

