-- ==== Sys2Proof/Machine/Flags.lean ====
section
/-! DEFINITION. The flag-like bits. The block has no condition codes and no operation sets a flag (10_state.md R42);
what it has are bit fields of words: the inverted disable bit of control word 0 (R31) and the one-hot state field of
monitor word 2 (R37). -/

namespace Sys2Proof.Machine

/-- `DIS` as a bit: 1 when not enabled (30_encoding.md R89). -/
def disBit (enable : Bool) : Word := if enable then 0 else 1

/-- Bit 31 cleared, bits 30:0 unchanged (41_control_packer.md R157). -/
def clearDis (w : Word) : Word := w &&& 0x7FFFFFFF

/-- Bit 31 set, bits 30:0 unchanged (41_control_packer.md R158). -/
def setDis (w : Word) : Word := w ||| 0x80000000

/-- The 1-based number of the lowest set bit, 0 when none is set: a priority encoder with bit 0 the highest priority
(42_status_decoder.md R193). -/
def lowestSet (b : Nibble) : Fin 5 :=
  if b.getLsbD 0 then 1
  else if b.getLsbD 1 then 2
  else if b.getLsbD 2 then 3
  else if b.getLsbD 3 then 4
  else 0

/-- The one-hot code of a state number, 0000 for state 0 (42_status_decoder.md R198). -/
def oneHot (s : Nat) : Nibble := if s = 0 then 0 else BitVec.ofNat 4 (1 <<< (s - 1))

end Sys2Proof.Machine
end

