-- ==== Sys2Proof/Machine/Packer.lean ====
section
/-! DEFINITION. The control register packer (41_control_packer.md): PACK0, PACKD, PACKV, CBUILD, W0EN, W0DIS. All are
pure. -/

namespace Sys2Proof.Machine

/-- `PACK0(enable, div)`: format CW0 (41_control_packer.md R152, 30_encoding.md R82). -/
def pack0 (enable : Bool) (div : Nat) : Word :=
  (disBit enable <<< 31) ||| ((0 : Word) <<< 30) ||| (BitVec.ofNat 8 div).zeroExtend 32

/-- `PACKD(d)`: format CWD (41_control_packer.md R153, 30_encoding.md R83). -/
def packd (d : Nat) : Word := (BitVec.ofNat 7 d).zeroExtend 32

/-- `PACKV(c)`: format CWV, zero-extended, never sign-extended (41_control_packer.md R154, 30_encoding.md R84, R90). -/
def packv (c : Code) : Word := c.zeroExtend 32

/-- The nine words of a config that VALIDATE has passed (41_control_packer.md R155); VENC cannot raise there, its
domain being the same interval. -/
def packWords (p : Params) (cfg : SequencerConfig) : ControlWordSet :=
  #v[pack0 cfg.enable cfg.div.toNat,
     packd cfg.delay[0].toNat, packd cfg.delay[1].toNat, packd cfg.delay[2].toNat, packd cfg.delay[3].toNat,
     packv (encodeCode p cfg.volt[0]), packv (encodeCode p cfg.volt[1]),
     packv (encodeCode p cfg.volt[2]), packv (encodeCode p cfg.volt[3])]

/-- `CBUILD(cfg)`: all nine words, or the first violated field and no word (41_control_packer.md R155, R156). -/
def cbuild (p : Params) (cfg : SequencerConfig) : Except OpError ControlWordSet :=
  match firstViolated p cfg with
  | some f => .error (.validationError f)
  | none => .ok (packWords p cfg)

/-- PACK0 enable, div. -/
def execPack0 (enable : Bool) (div : Nat) (s : State) : Host.Outcome State Fault Refusal :=
  .next (s.pureAnswer (.word (pack0 enable div)))

/-- PACKD d. -/
def execPackd (d : Nat) (s : State) : Host.Outcome State Fault Refusal :=
  .next (s.pureAnswer (.word (packd d)))

/-- PACKV c. -/
def execPackv (c : Code) (s : State) : Host.Outcome State Fault Refusal :=
  .next (s.pureAnswer (.word (packv c)))

/-- CBUILD cfg. -/
def execCbuild (cfg : SequencerConfig) (s : State) : Host.Outcome State Fault Refusal :=
  match cbuild params cfg with
  | .ok cw => .next (s.pureAnswer (.wordSet cw))
  | .error e => .next (s.begin.fail e)

/-- W0EN w. -/
def execW0en (w : Word) (s : State) : Host.Outcome State Fault Refusal :=
  .next (s.pureAnswer (.word (clearDis w)))

/-- W0DIS w. -/
def execW0dis (w : Word) (s : State) : Host.Outcome State Fault Refusal :=
  .next (s.pureAnswer (.word (setDis w)))

end Sys2Proof.Machine
end

