-- ==== Sys2Proof/Machine/StatusDecoder.lean ====
section
/-! DEFINITION. The status register decoder (42_status_decoder.md): XDAC, XSTICKY, XSTATE, XDIV, SDEC and the helper
OHENC. All are pure and total (R190). -/

namespace Sys2Proof.Machine

/-- `XDAC(w)` (42_status_decoder.md R191): the sign is bit 15 of w; bits 31:16 are ignored. -/
def xdac (w : Word) : Volt := vdec (w.extractLsb' 0 16)

/-- `XSTICKY(w)` (42_status_decoder.md R192): bits 3:0 verbatim. -/
def xsticky (w : Word) : Nibble := w.extractLsb' 0 4

/-- `XSTATE(w)` (42_status_decoder.md R193): the lowest set bit of bits 3:0, never a fault. -/
def xstate (w : Word) : Fin 5 := lowestSet (w.extractLsb' 0 4)

/-- `XDIV(w)` (42_status_decoder.md R194): bits 7:0 verbatim. -/
def xdiv (w : Word) : Byte := w.extractLsb' 0 8

/-- `SDEC(raw)` (42_status_decoder.md R195): the four extractions, independent of one another, and the raw copy. -/
def sdec (raw : RawWords) : MonitorSnapshot where
  dacVoltage   := xdac raw[0]
  sticky       := xsticky raw[1]
  currentState := xstate raw[2]
  divCounter   := xdiv raw[3]
  raw          := raw

/-- XDAC w. -/
def execXdac (w : Word) (s : State) : Host.Outcome State Fault Refusal :=
  .next (s.pureAnswer (.volt (xdac w)))

/-- XSTICKY w. -/
def execXsticky (w : Word) (s : State) : Host.Outcome State Fault Refusal :=
  .next (s.pureAnswer (.nibble (xsticky w)))

/-- XSTATE w. -/
def execXstate (w : Word) (s : State) : Host.Outcome State Fault Refusal :=
  .next (s.pureAnswer (.stateNumber (xstate w)))

/-- XDIV w. -/
def execXdiv (w : Word) (s : State) : Host.Outcome State Fault Refusal :=
  .next (s.pureAnswer (.byte (xdiv w)))

/-- SDEC raw. -/
def execSdec (raw : RawWords) (s : State) : Host.Outcome State Fault Refusal :=
  .next (s.pureAnswer (.snapshot (sdec raw)))

/-- OHENC s (42_status_decoder.md R198). -/
def execOhenc (n : Nat) (s : State) : Host.Outcome State Fault Refusal :=
  .next (s.pureAnswer (.nibble (oneHot n)))

end Sys2Proof.Machine
end

