-- ==== Sys2Proof/Machine/Session.lean ====
section
/-! DEFINITION. The session operations (43_session_ops.md): DEPLOY, CONFIGURE, ENABLE, DISABLE, STATUS, RELEASE. Each
checks the session state first, then its operands, then makes its device accesses in their stated order (R228). An
operation that fails leaves SS, HANDLE, CFG_LAST and W0C as they were (R220). -/

namespace Sys2Proof.Machine

/-- DEPLOY's state after TDeploy's answer (43_session_ops.md R221). -/
def deployEffect (r : DeployAnswer × State) : State :=
  match r with
  | (.ok h _, s) => { s with handle := some h, ss := .deployed }.answer .nothing
  | (.fail _, s) => s.fail .deploymentError
  | (.tout _, s) => s.fail .transportTimeout

/-- DEPLOY slot, bitstream, policy (43_session_ops.md R221): refused outside Unbound (decision D10). -/
def execDeploy (slot : Nat) (bitstream : List Byte) (policy : Nat) (s : State) :
    Host.Outcome State Fault Refusal :=
  match s.ss with
  | .unbound => .next (deployEffect (tDeploy slot bitstream policy s.begin))
  | .deployed => .refused .deployNotUnbound
  | .configured => .refused .deployNotUnbound

/-- CONFIGURE's state after its writes (43_session_ops.md R222). -/
def configureEffect (cfg : SequencerConfig) (cw : ControlWordSet) (r : Option OpError × State) : State :=
  match r with
  | (none, s) => { s with w0c := cw[0], cfgLast := some cfg, ss := .configured }.answer .nothing
  | (some e, s) => s.fail e

/-- CONFIGURE after its check of the session state: validation, then the nine writes (43_session_ops.md R222, R228). -/
def configureDevice (p : Params) (cfg : SequencerConfig) (s : State) : Host.Outcome State Fault Refusal :=
  match cbuild p cfg with
  | .error e => .next (s.begin.fail e)
  | .ok cw =>
    match s.handle with
    | none => .fault .noHandle
    | some h => .next (configureEffect cfg cw (writeAll h cw p.cfgWriteOrder s.begin))

/-- CONFIGURE under given parameters (43_session_ops.md R222). -/
def configureWith (p : Params) (cfg : SequencerConfig) (s : State) : Host.Outcome State Fault Refusal :=
  match s.ss with
  | .unbound => .next (s.begin.fail (.notReady .unbound))
  | .deployed => configureDevice p cfg s
  | .configured => if p.allowReconfigure then configureDevice p cfg s else .refused .reconfigureNotAllowed

/-- CONFIGURE cfg. -/
def execConfigure (cfg : SequencerConfig) (s : State) : Host.Outcome State Fault Refusal :=
  configureWith params cfg s

/-- The state after ENABLE's or DISABLE's one write of word w (43_session_ops.md R223). -/
def word0Effect (w : Word) (r : Option OpError × State) : State :=
  match r with
  | (none, s) => { s with w0c := w }.answer .nothing
  | (some e, s) => s.fail e

/-- Write control word 0 alone and, if the write succeeds, keep it in W0C (43_session_ops.md R223, R224). -/
def writeWord0 (w : Word) (s : State) : Host.Outcome State Fault Refusal :=
  match s.ss with
  | .unbound => .next (s.begin.fail (.notReady .unbound))
  | .deployed => .next (s.begin.fail (.notReady .deployed))
  | .configured =>
    match s.handle with
    | none => .fault .noHandle
    | some h => .next (word0Effect w (devWrite h 0 w s.begin))

/-- ENABLE (43_session_ops.md R223): one write of `CR[0]`, bit 31 of W0C cleared. -/
def execEnable (s : State) : Host.Outcome State Fault Refusal := writeWord0 (clearDis s.w0c) s

/-- DISABLE (43_session_ops.md R224): one write of `CR[0]`, bit 31 of W0C set. -/
def execDisable (s : State) : Host.Outcome State Fault Refusal := writeWord0 (setDis s.w0c) s

/-- STATUS's state after its reads (43_session_ops.md R225). -/
def statusEffect (r : Except OpError RawWords × State) : State :=
  match r with
  | (.ok raw, s) => s.answer (.snapshot (sdec raw))
  | (.error e, s) => s.fail e

/-- STATUS in a state with a handle: the four reads (43_session_ops.md R225). -/
def statusDevice (p : Params) (s : State) : Host.Outcome State Fault Refusal :=
  match s.handle with
  | none => .fault .noHandle
  | some h => .next (statusEffect (readAll h p.statusReadOrder #v[0, 0, 0, 0] s.begin))

/-- STATUS under given parameters (43_session_ops.md R225). -/
def statusWith (p : Params) (s : State) : Host.Outcome State Fault Refusal :=
  match s.ss with
  | .unbound => .next (s.pureAnswer .disconnected)
  | .deployed => statusDevice p s
  | .configured => statusDevice p s

/-- STATUS. -/
def execStatus (s : State) : Host.Outcome State Fault Refusal := statusWith params s

/-- RELEASE's state after TRelease's answer (43_session_ops.md R226): the reset state of the block, with W0C
unspecified: a free value (10_state.md R44, log entry 9). -/
def releaseEffect (r : ReleaseAnswer × State) : State :=
  { r.2 with
    handle := none, cfgLast := none, ss := .unbound
    w0c := Config.freeWord r.2.draws, draws := r.2.draws + 1 }.answer (.relinquished r.1.relinquished)

/-- RELEASE in a state with a handle (43_session_ops.md R226). -/
def releaseDevice (s : State) : Host.Outcome State Fault Refusal :=
  match s.handle with
  | none => .fault .noHandle
  | some h => .next (releaseEffect (tRelease h s.begin))

/-- RELEASE (43_session_ops.md R226): never an error; no transport call while Unbound. -/
def execRelease (s : State) : Host.Outcome State Fault Refusal :=
  match s.ss with
  | .unbound => .next (s.pureAnswer (.relinquished true))
  | .deployed => releaseDevice s
  | .configured => releaseDevice s

end Sys2Proof.Machine
end

