-- ==== Sys2Proof/Machine/Dispatch.lean ====
section
/-! DEFINITION. One arm per operation, in the opcode table's order. -/

namespace Sys2Proof.Machine

def exec (i : Instr) (s : State) : Host.Outcome State Fault Refusal :=
  match i with
  | .venc v => Sys2Proof.Machine.execVenc v s
  | .vdec c => Sys2Proof.Machine.execVdec c s
  | .pack0 e d => Sys2Proof.Machine.execPack0 e d s
  | .packd d => Sys2Proof.Machine.execPackd d s
  | .packv c => Sys2Proof.Machine.execPackv c s
  | .cbuild cfg => Sys2Proof.Machine.execCbuild cfg s
  | .w0en w => Sys2Proof.Machine.execW0en w s
  | .w0dis w => Sys2Proof.Machine.execW0dis w s
  | .xdac w => Sys2Proof.Machine.execXdac w s
  | .xsticky w => Sys2Proof.Machine.execXsticky w s
  | .xstate w => Sys2Proof.Machine.execXstate w s
  | .xdiv w => Sys2Proof.Machine.execXdiv w s
  | .sdec raw => Sys2Proof.Machine.execSdec raw s
  | .ohenc n => Sys2Proof.Machine.execOhenc n s
  | .deploy slot bitstream policy => Sys2Proof.Machine.execDeploy slot bitstream policy s
  | .configure cfg => Sys2Proof.Machine.execConfigure cfg s
  | .enable => Sys2Proof.Machine.execEnable s
  | .disable => Sys2Proof.Machine.execDisable s
  | .status => Sys2Proof.Machine.execStatus s
  | .release => Sys2Proof.Machine.execRelease s

end Sys2Proof.Machine
end

