-- ==== Sys2Proof/Machine/Fetch.lean ====
section
/-! DEFINITION. Taking the next request and running it, which `Machine.step` calls. -/

namespace Sys2Proof.Machine

/-- The refusal a rejected request ends in (30_encoding.md R97; log entry 3). -/
def refusalOf (sel : Selector) : Reject → Refusal
  | .unassignedSelector => .unassignedSelector sel
  | .operandsNotPresentable => .operandsNotPresentable sel

/-- Perform the oldest request to its end before taking another (00_scope.md R13). With nothing requested the block
does nothing (log entry 2). -/
def runPending (s : State) : Host.Outcome State Fault Refusal :=
  match s.pending with
  | [] => .next s
  | r :: rest =>
    match decode r with
    | .ok i => exec i { s with pending := rest }
    | .error why => .refused (refusalOf r.sel why)

/-- The state with a request placed where the next step takes its request from. -/
def State.withRequest (s : State) (r : Request) : State := { s with pending := r :: s.pending }

end Sys2Proof.Machine
end

