-- ==== Sys2Proof/Safety.lean ====
section
/-! DEFINITION. The terms claims use: the invariant of the reachable states of the block (10_state.md R24), agreement
of the block with the device (R43), the control word formats (30_encoding.md R96), what an operation issued and
replied, and reachability with the inputs the outside world may give. -/

namespace Sys2Proof.Machine

/-- What every reachable state of the block satisfies (10_state.md R24 and R22). -/
structure BlockInv (s : State) : Prop where
  /-- R24 (a): HANDLE is present exactly in Deployed and Configured. -/
  handlePresent : s.handle.isSome ↔ s.ss ≠ .unbound
  /-- R24 (b): CFG_LAST is present exactly in Configured. -/
  cfgPresent : s.cfgLast.isSome ↔ s.ss = .configured
  /-- R24 (c): in Configured only bit 31 and bits 7:0 of W0C can be non-zero. -/
  w0cBits : s.ss = .configured → s.w0c &&& 0x7FFFFF00 = 0
  /-- R24 (d): in Configured, W0C's divider is CFG_LAST's. -/
  w0cDiv : s.ss = .configured → ∀ cfg, s.cfgLast = some cfg → s.w0c.extractLsb' 0 8 = BitVec.ofInt 8 cfg.div
  /-- R22: CFG_LAST is a valid config. -/
  cfgValid : ∀ cfg, s.cfgLast = some cfg → validConfig cfg = true

/-- The four elements of the block's state are the same (10_state.md R20). -/
def SameBlock (s t : State) : Prop :=
  t.ss = s.ss ∧ t.handle = s.handle ∧ t.cfgLast = s.cfgLast ∧ t.w0c = s.w0c

/-- The device's registers are the same. -/
def SameDevice (s t : State) : Prop := t.cr = s.cr ∧ t.mr = s.mr

/-- No input of the transport was used. -/
def SameInputs (s t : State) : Prop :=
  t.deployAnswers = s.deployAnswers ∧ t.writeAnswers = s.writeAnswers ∧ t.readAnswers = s.readAnswers ∧
  t.releaseAnswers = s.releaseAnswers ∧ t.draws = s.draws

/-- The operation ended with an error. -/
def Failed (t : State) : Prop := ∃ e, t.reply = some (.err e)

/-- The pure operations: selector groups 00, 01 and 10 (00_scope.md R13). -/
def isPure : Instr → Bool
  | .venc _ | .vdec _ | .pack0 _ _ | .packd _ | .packv _ | .cbuild _ | .w0en _ | .w0dis _ | .xdac _ | .xsticky _
  | .xstate _ | .xdiv _ | .sdec _ | .ohenc _ => true
  | .deploy _ _ _ | .configure _ | .enable | .disable | .status | .release => false

/-- The writes among the calls of the last operation, in order. -/
def writesOf (s : State) : List (Fin 9 × Word) :=
  s.calls.filterMap fun
    | .write _ i w => some (i, w)
    | _ => none

/-- The reads among the calls of the last operation, in order. -/
def readsOf (s : State) : List (Fin 4) :=
  s.calls.filterMap fun
    | .read _ j => some j
    | _ => none

/-- A word that control slot i can hold: every bit outside the slot's fields is zero (30_encoding.md R92, R96). -/
def slotFormat (i : Fin 9) (w : Word) : Prop :=
  if i = 0 then w &&& 0x7FFFFF00 = 0
  else if i.val ≤ 4 then w &&& 0xFFFFFF80 = 0
  else w &&& 0xFFFF0000 = 0

/-- Field f of a config is inside its range, both bounds included (10_state.md R27). -/
def FieldInRange (cfg : SequencerConfig) : Field → Prop
  | .delay k => 0 ≤ cfg.delay[k] ∧ cfg.delay[k] ≤ 127
  | .volt k => -5 ≤ cfg.volt[k] ∧ cfg.volt[k] ≤ 5
  | .div => 0 ≤ cfg.div ∧ cfg.div ≤ 255

/-- The config is valid (10_state.md R27). -/
def ConfigValid (cfg : SequencerConfig) : Prop := ∀ f, FieldInRange cfg f

/-- Field f is out of range and every field before it in the order delay 1 to 4, volt 1 to 4, div is in range
(41_control_packer.md R151). -/
def FirstViolated (cfg : SequencerConfig) (f : Field) : Prop :=
  ¬ FieldInRange cfg f ∧ ∃ before after, allFields = before ++ f :: after ∧ ∀ g ∈ before, FieldInRange cfg g

/-- An operation that ended with outcome `r`, made no transport call and changed nothing else. -/
def onlyReplied (s : State) (r : Reply) : State := { s with reply := some r, calls := [] }

/-- Control word 0 as an unsigned number: 2^31 * (1 - enable) + div (30_encoding.md R89), so bit 31 is NOT enable, bits
7:0 are the divider below 256, and every other bit, bit 30 among them, is zero. -/
def word0Of (enable : Bool) (div : Nat) : Word := BitVec.ofNat 32 ((if enable then 0 else 2 ^ 31) + div)

/-- The nine control words of a config whose voltage codes are `code`, as unsigned numbers (30_encoding.md R89). -/
def formattedWords (cfg : SequencerConfig) (code : Fin 4 → Code) : ControlWordSet :=
  #v[word0Of cfg.enable cfg.div.toNat,
     BitVec.ofNat 32 cfg.delay[0].toNat, BitVec.ofNat 32 cfg.delay[1].toNat,
     BitVec.ofNat 32 cfg.delay[2].toNat, BitVec.ofNat 32 cfg.delay[3].toNat,
     BitVec.ofNat 32 (code 0).toNat, BitVec.ofNat 32 (code 1).toNat,
     BitVec.ofNat 32 (code 2).toNat, BitVec.ofNat 32 (code 3).toNat]

/-- The nine words are those of a valid config: fields by format, voltage codes by VENC (41_control_packer.md R155). -/
def WordsOf (cfg : SequencerConfig) (cw : ControlWordSet) : Prop :=
  ∃ code : Fin 4 → Code, (∀ k, venc params cfg.volt[k] = .ok (code k)) ∧ cw = formattedWords cfg code

/-- The error a failed access raises: TransportTimeout after a timeout, else TransportError (60_exceptions.md R263,
R264). -/
def accessError (timedOut : Bool) : OpError := if timedOut then .transportTimeout else .transportError

/-- The answer of a failed write, which landed or not. -/
def failedWrite (timedOut landed : Bool) : WriteAnswer := if timedOut then .tout landed else .terr landed

/-- The answer of a failed read. -/
def failedRead (timedOut : Bool) : ReadAnswer := if timedOut then .tout else .terr

/-- The device's control word 0 is the block's copy of it (10_state.md R43). -/
def Agrees (s : State) : Prop := s.cr[0] = s.w0c

/-- The states a run can be in: from reset, by steps of the block, by requests and transport answers the outside world
supplies at any time, by the device moving its monitor registers (00_scope.md R13), and, while the block holds no
handle, by anything happening to any register of the device (93_implementation_defined.md U18; log entry 14). -/
inductive Reachable : State → Prop where
  | reset : Reachable State.reset
  | step {s t : State} : Reachable s → step s = .next t → Reachable t
  | supply {s : State} (requests : List Request) (ds : List DeployAnswer) (ws : List WriteAnswer)
      (rs : List ReadAnswer) (ls : List ReleaseAnswer) : Reachable s →
      Reachable { s with pending := requests, deployAnswers := ds, writeAnswers := ws, readAnswers := rs,
                         releaseAnswers := ls }
  | deviceMoves {s : State} (mr : Vector Word 4) : Reachable s → Reachable (s.deviceShows mr)
  | unheldDeviceMoves {s : State} (dev : DeviceRegs) : Reachable s → s.ss = .unbound → Reachable (s.deviceHolds dev)

end Sys2Proof.Machine
end

