-- ==== Sys2Proof/Certificates/Slice0/Obligations.lean ====
section
/-! DEFINITION. The statements for the provers. Rules R<n> are those of spec/; a docstring that names a log entry says
that a clause rests on the model's own choice. -/

open Sys2Proof Sys2Proof.Machine

/-! ### Encoding and the step -/

/-- 30_encoding.md table S, a few rows of it, as opcode-table words; the operands are at their zeros (log entry 4). -/
def Obligations.TableWordsDecodeToTheirOperations : Prop :=
  decodeTableWord 8 0b00001 = some (.vdec 0) ∧
  decodeTableWord 8 0b01000 = some (.pack0 false 0) ∧
  decodeTableWord 8 0b01101 = some (.w0dis 0) ∧
  decodeTableWord 8 0b10010 = some (.xstate 0) ∧
  decodeTableWord 8 0b11000 = some (.deploy 0 [] 0) ∧
  decodeTableWord 8 0b11011 = some .disable ∧
  decodeTableWord 8 0b00010 = none

/-- Decoding the request of an operation gives it back, with every operand at every value its domain has. -/
def Obligations.DecodeOfEncodeIsIdentity : Prop :=
  ∀ i : Instr, i.WellFormed → decode (encode i) = .ok i

/-- Every request has at most one meaning: what decodes is the request of the operation it decodes to, and that
operation is well formed. -/
def Obligations.EncodeOfDecodeIsIdentity : Prop :=
  ∀ (r : Request) (i : Instr), decode r = .ok i → i.WellFormed ∧ encode i = r

/-- 30_encoding.md R97: the twelve selectors outside table S, and no others, select nothing, and a request with one of
them is refused. -/
def Obligations.ExactlyTwelveSelectorsAreRefused : Prop :=
  ∀ (s : State) (r : Request) (rest : List Request), s.pending = r :: rest →
    (step s = .refused (.unassignedSelector r.sel) ↔
      r.sel ∈ ([0b00010, 0b00011, 0b00100, 0b00101, 0b00110, 0b00111, 0b01110, 0b01111,
                0b10110, 0b10111, 0b11110, 0b11111] : List Selector))

/-- A step runs the operation the oldest request decodes to, with that request taken from the queue (the queue is the
model's choice, log entry 1); with nothing requested the step changes nothing (log entry 2); an opcode-table word, its
operands at their zeros (log entry 4), placed as the next request (log entry 1) runs the operation it decodes to. -/
def Obligations.StepRunsTheDecodedRequest : Prop :=
  (∀ (s : State) (r : Request) (rest : List Request) (i : Instr), s.pending = r :: rest → decode r = .ok i →
    step s = exec i { s with pending := rest }) ∧
  (∀ s : State, s.pending = [] → step s = .next s) ∧
  (∀ (s : State) (nbits w : Nat) (i : Instr), decodeTableWord nbits w = some i →
    step (s.withFetchWord nbits w) = exec i s)

/-! ### Whole-machine rules -/

/-- 10_state.md R44: the block at power-up and after every RELEASE. (Taking Unbound as the power-up state is decision
D15; W0C is unspecified and not stated.) -/
def Obligations.ResetAndReleaseLeaveTheBlockUnbound : Prop :=
  (State.reset.ss = .unbound ∧ State.reset.handle = none ∧ State.reset.cfgLast = none) ∧
  ∀ s t : State, BlockInv s → exec .release s = .next t → t.ss = .unbound ∧ t.handle = none ∧ t.cfgLast = none

/-- The reset state meets the invariant of 10_state.md R24. -/
def Obligations.ResetMeetsTheBlockInvariant : Prop := BlockInv State.reset

/-- 10_state.md R24: every step keeps the invariant. -/
def Obligations.EveryStepKeepsTheBlockInvariant : Prop :=
  ∀ s t : State, BlockInv s → step s = .next t → BlockInv t

/-- 10_state.md R24 as the spec states it: of every reachable state, whatever the host requests and whatever the
transport and the device answer. -/
def Obligations.ReachableStatesMeetTheBlockInvariant : Prop :=
  ∀ s : State, Reachable s → BlockInv s

/-- 20_memory.md R60, R61: no transport call without a handle. From a state that meets the invariant no step faults
(log entry 11). -/
def Obligations.NoStepFaultsUnderTheBlockInvariant : Prop :=
  ∀ (s : State) (f : Fault), BlockInv s → step s ≠ .fault f

/-- 60_exceptions.md R268: of the twenty operations only DEPLOY outside Unbound is refused. -/
def Obligations.OnlyDeployOutsideUnboundIsRefused : Prop :=
  ∀ (i : Instr) (s : State) (r : Refusal), exec i s = .refused r ↔
    (∃ slot bitstream policy, i = .deploy slot bitstream policy) ∧ s.ss ≠ .unbound ∧ r = .deployNotUnbound

/-- 43_session_ops.md R220, 60_exceptions.md R271: an operation that returns an error leaves the block's four elements
as they were. -/
def Obligations.FailedOperationsKeepTheBlockState : Prop :=
  ∀ (i : Instr) (s t : State), exec i s = .next t → Failed t → SameBlock s t

/-- 00_scope.md R13: the pure operations read and write no state at all: one outcome, whatever the state, and nothing
but the port changes. -/
def Obligations.PureOperationsReadAndWriteNoState : Prop :=
  ∀ i : Instr, isPure i = true → ∃ r : Reply, ∀ s : State, exec i s = .next (onlyReplied s r)

/-- 43_session_ops.md R227: there are no other transitions of SS than DEPLOY from Unbound, CONFIGURE from Deployed,
RELEASE to Unbound. -/
def Obligations.SessionStateMovesOnlyByTheTable : Prop :=
  ∀ (i : Instr) (s t : State), exec i s = .next t → t.ss ≠ s.ss →
    (s.ss = .unbound ∧ t.ss = .deployed ∧ ∃ slot bitstream policy, i = .deploy slot bitstream policy) ∨
    (s.ss = .deployed ∧ t.ss = .configured ∧ ∃ cfg, i = .configure cfg) ∨
    (s.ss ≠ .unbound ∧ t.ss = .unbound ∧ i = .release)

/-- What each operation leaves alone, whatever the transport answers: HANDLE is DEPLOY's and RELEASE's, CFG_LAST is
CONFIGURE's and RELEASE's, W0C is written by CONFIGURE, ENABLE, DISABLE and becomes unspecified by RELEASE, CR is written
by CONFIGURE, and by ENABLE and DISABLE at index 0 alone (a failed write touches no other register: decision D23, log
entry 8, unsafe), and is unspecified after DEPLOY and after a RELEASE that makes its call (log entries 6 and 14); that MR
moves only where a call of STATUS, DEPLOY or RELEASE is answered is the model's choice (log entry 7); the host's queue
is not touched. -/
def Obligations.SessionOperationsChangeOnlyTheirTargets : Prop :=
  ∀ (i : Instr) (s t : State), exec i s = .next t →
    t.pending = s.pending ∧
    ((∀ a b c, i ≠ .deploy a b c) → i ≠ .release → t.handle = s.handle) ∧
    ((∀ cfg, i ≠ .configure cfg) → i ≠ .release → t.cfgLast = s.cfgLast) ∧
    ((∀ cfg, i ≠ .configure cfg) → i ≠ .enable → i ≠ .disable → i ≠ .release → t.w0c = s.w0c) ∧
    ((∀ a b c, i ≠ .deploy a b c) → (∀ cfg, i ≠ .configure cfg) → (s.ss = .unbound ∨ i ≠ .release) →
      ∀ j : Fin 9, (j ≠ 0 ∨ (i ≠ .enable ∧ i ≠ .disable)) → t.cr[j] = s.cr[j]) ∧
    ((∀ a b c, i ≠ .deploy a b c) → (s.ss = .unbound ∨ (i ≠ .status ∧ i ≠ .release)) → t.mr = s.mr) ∧
    ((∀ a b c, i ≠ .deploy a b c) → t.deployAnswers = s.deployAnswers) ∧
    ((∀ cfg, i ≠ .configure cfg) → i ≠ .enable → i ≠ .disable → t.writeAnswers = s.writeAnswers) ∧
    (i ≠ .status → t.readAnswers = s.readAnswers) ∧
    (i ≠ .release → t.releaseAnswers = s.releaseAnswers)

/-- 10_state.md R43: no operation's outcome depends on the device's registers, which the block never reads back; nor on
MR as it stood before the operation. -/
def Obligations.OutcomesDoNotDependOnDeviceRegisters : Prop :=
  ∀ (i : Instr) (s t : State) (cr : Vector Word 9) (mr : Vector Word 4), exec i s = .next t →
    ∃ t', exec i { s with cr := cr, mr := mr } = .next t' ∧ t' = { t with cr := t'.cr, mr := t'.mr }

/-- 10_state.md R23: outside Configured no operation reads W0C: with another word there everything else comes out the
same, and W0C itself is the same new word, or in both runs the word it was. -/
def Obligations.W0cIsNotReadOutsideConfigured : Prop :=
  ∀ (i : Instr) (s t : State) (w : Word), s.ss ≠ .configured → exec i s = .next t →
    ∃ t', exec i { s with w0c := w } = .next t' ∧ t' = { t with w0c := t'.w0c } ∧
      (t'.w0c = t.w0c ∨ (t.w0c = s.w0c ∧ t'.w0c = w))

/-- 43_session_ops.md R221 to R226: which device accesses an operation issues, and how many. CONFIGURE's writes and
STATUS's reads are the first ones of the default orders (decisions D12, D13), each index at most once. -/
def Obligations.DeviceAccessesOfEachOperation : Prop :=
  ∀ (i : Instr) (s t : State), exec i s = .next t →
    (isPure i = true → t.calls = []) ∧
    (s.ss = .unbound → (∀ a b c, i ≠ .deploy a b c) → t.calls = []) ∧
    ((∀ cfg, i ≠ .configure cfg) → i ≠ .enable → i ≠ .disable → writesOf t = []) ∧
    (i ≠ .status → readsOf t = []) ∧
    ((i = .enable ∨ i = .disable) → s.ss = .configured → ∃ h w, t.calls = [.write h 0 w]) ∧
    ((∃ cfg, i = .configure cfg) → (writesOf t).map Prod.fst <+: List.finRange 9) ∧
    (i = .status → readsOf t <+: List.finRange 4)

/-- 70_reset_and_hazards.md R313, 30_encoding.md R92: every word written to a control register has its slot's format,
so bit 30 of every word 0 is zero. The premise is the invariant R24 (c). -/
def Obligations.EveryWrittenWordHasItsSlotFormat : Prop :=
  ∀ (i : Instr) (s t : State), BlockInv s → exec i s = .next t → ∀ iw ∈ writesOf t, slotFormat iw.1 iw.2

/-- 60_exceptions.md R261, R266: RangeError comes only out of VENC, for its own operand, and NotFoundError out of no
operation. -/
def Obligations.RangeErrorOnlyFromVencNotFoundFromNone : Prop :=
  ∀ (i : Instr) (s t : State), exec i s = .next t →
    t.reply ≠ some (.err .notFoundError) ∧ ∀ v, t.reply = some (.err (.rangeError v)) → i = .venc v

/-- 70_reset_and_hazards.md R307, 10_state.md R43: after CONFIGURE, ENABLE or DISABLE succeeds, the device's word 0 is
the block's copy of it, whatever they were before. -/
def Obligations.SuccessfulWritesRestoreAgreement : Prop :=
  ∀ (i : Instr) (s t : State), ((∃ cfg, i = .configure cfg) ∨ i = .enable ∨ i = .disable) →
    exec i s = .next t → (∃ r, t.reply = some (.ok r)) → Agrees t

/-- 10_state.md R43: a failed write can leave block and device in disagreement, from a state where they agreed. -/
def Obligations.FailedEnableCanBreakAgreement : Prop :=
  ∃ s t : State, BlockInv s ∧ Agrees s ∧ exec .enable s = .next t ∧ Failed t ∧ ¬ Agrees t

/-! ### The voltage codec -/

/-- 40_voltage_codec.md R121: VENC inside the domain, both bounds included; scale 32768 for negative voltages is
decision D3, ties to even D2. -/
def Obligations.VencResultInsideTheDomain : Prop :=
  ∀ (v : Volt) (s : State), -5 ≤ v → v ≤ 5 →
    exec (.venc v) s = .next (onlyReplied s (.ok (.code (BitVec.ofInt 16
      (if 0 ≤ v then rnd .even (v * 32767 / 5) else rnd .even (v * 32768 / 5))))))

/-- 40_voltage_codec.md R121, 60_exceptions.md R261: VENC outside the domain returns RangeError with the voltage. -/
def Obligations.VencRangeErrorOutsideTheDomain : Prop :=
  ∀ (v : Volt) (s : State), v < -5 ∨ 5 < v → exec (.venc v) s = .next (onlyReplied s (.err (.rangeError v)))

/-- 40_voltage_codec.md R122: the three anchors. -/
def Obligations.VencAnchors : Prop :=
  ∀ s : State, exec (.venc 5) s = .next (onlyReplied s (.ok (.code 0x7FFF))) ∧
    exec (.venc 0) s = .next (onlyReplied s (.ok (.code 0x0000))) ∧
    exec (.venc (-5)) s = .next (onlyReplied s (.ok (.code 0x8000)))

/-- 40_voltage_codec.md R123: VDEC of every code, and that its result lies in [-5, 5]. -/
def Obligations.VdecResult : Prop :=
  ∀ (c : Code) (s : State), ∃ v : Volt,
    v = (if c.toInt < 0 then (c.toInt : Rat) * 5 / 32768 else (c.toInt : Rat) * 5 / 32767) ∧ -5 ≤ v ∧ v ≤ 5 ∧
    exec (.vdec c) s = .next (onlyReplied s (.ok (.volt v)))

/-- 00_scope.md R10: `rnd` is the nearest integer, halfway the even one, and under the other tie rule the one farther
from zero. -/
def Obligations.RoundingIsNearestWithItsTieRule : Prop :=
  ∀ (q : Rat) (k : Int),
    (rnd .even q = k ↔ |q - k| < 1 / 2 ∨ (|q - k| = 1 / 2 ∧ Even k)) ∧
    (rnd .away q = k ↔ |q - k| < 1 / 2 ∨ (|q - k| = 1 / 2 ∧ |q| < |(k : Rat)|))

/-- 40_voltage_codec.md R126: encoding a decoded code gives the code back, for all 65536 codes. It rests on
`ENC_NEG_SCALE` = 32768, decision D3 (log entry 12). -/
def Obligations.VencOfVdecIsIdentity : Prop :=
  ∀ c : Code, venc params (vdec c) = .ok c

/-- 40_voltage_codec.md R125: decoding an encoded voltage is off by at most half a quantization step of its half range.
The bound below zero rests on `ENC_NEG_SCALE` = 32768, decision D3 (log entry 12). -/
def Obligations.VdecOfVencErrorBound : Prop :=
  ∀ (v : Volt) (c : Code), venc params v = .ok c →
    (0 ≤ v → |vdec c - v| ≤ 5 / 65534) ∧ (v < 0 → |vdec c - v| ≤ 5 / 65536)

/-- 40_voltage_codec.md R127: VDEC is strictly increasing and VENC non-decreasing in the signed code; VENC is that of
decisions D2 and D3 (log entry 12). -/
def Obligations.CodecKeepsOrder : Prop :=
  (∀ c d : Code, c.toInt < d.toInt → vdec c < vdec d) ∧
  (∀ (v w : Volt) (c d : Code), v ≤ w → venc params v = .ok c → venc params w = .ok d → c.toInt ≤ d.toInt)

/-- 40_voltage_codec.md R123: VDEC lies in [-5, 5] and takes 5, -5 and 0 at one code each. -/
def Obligations.VdecRangeAndUniqueAnchors : Prop :=
  ∀ c : Code, -5 ≤ vdec c ∧ vdec c ≤ 5 ∧
    (vdec c = 5 ↔ c = 0x7FFF) ∧ (vdec c = -5 ↔ c = 0x8000) ∧ (vdec c = 0 ↔ c = 0x0000)

/-- 40_voltage_codec.md R129: with `ENC_NEG_SCALE = 32767` the code round trip fails for exactly 0x8000..0xBFFF. -/
def Obligations.LiteralNegativeScaleFailsOnOneQuarter : Prop :=
  ∀ c : Code, venc { params with encNegScale := 32767 } (vdec c) = .ok c ↔
    ¬ (0x8000 ≤ c.toNat ∧ c.toNat ≤ 0xBFFF)

/-! ### The control register packer -/

/-- 41_control_packer.md R152, R153, R154: the packed words as the unsigned numbers of 30_encoding.md R89, which puts
NOT enable in bit 31, the divider in bits 7:0, the delay in bits 6:0, the code in bits 15:0 and zero everywhere else. -/
def Obligations.WordPackerResults : Prop :=
  (∀ (e : Bool) (d : Nat) (s : State), d ≤ 255 →
    exec (.pack0 e d) s = .next (onlyReplied s (.ok (.word (word0Of e d))))) ∧
  (∀ (d : Nat) (s : State), d ≤ 127 →
    exec (.packd d) s = .next (onlyReplied s (.ok (.word (BitVec.ofNat 32 d))))) ∧
  (∀ (c : Code) (s : State),
    exec (.packv c) s = .next (onlyReplied s (.ok (.word (BitVec.ofNat 32 c.toNat)))))

/-- 41_control_packer.md R157, R158: bit 31 cleared or set, bits 30:0 unchanged. -/
def Obligations.EnableDisableWordResults : Prop :=
  ∀ (w : Word) (s : State),
    (exec (.w0en w) s = .next (onlyReplied s (.ok (.word (w &&& 0x7FFFFFFF)))) ∧
      (w &&& 0x7FFFFFFF).getLsbD 31 = false ∧ ∀ b < 31, (w &&& 0x7FFFFFFF).getLsbD b = w.getLsbD b) ∧
    (exec (.w0dis w) s = .next (onlyReplied s (.ok (.word (w ||| 0x80000000)))) ∧
      (w ||| 0x80000000).getLsbD 31 = true ∧ ∀ b < 31, (w ||| 0x80000000).getLsbD b = w.getLsbD b)

/-- 41_control_packer.md R159: W0EN and W0DIS are absolute, not toggles, and agree with a rebuild of word 0. -/
def Obligations.EnableDisableWordLaws : Prop :=
  (∀ w : Word, clearDis (clearDis w) = clearDis w ∧ setDis (setDis w) = setDis w ∧
    clearDis (setDis w) = clearDis w ∧ setDis (clearDis w) = setDis w) ∧
  (∀ (e : Bool) (d : Nat), d ≤ 255 →
    clearDis (pack0 e d) = pack0 true d ∧ setDis (pack0 e d) = pack0 false d)

/-- 41_control_packer.md R155: CBUILD of a valid config returns the nine words of the formats CW0, CWD, CWV. -/
def Obligations.CbuildResultOnValidConfigs : Prop :=
  ∀ (cfg : SequencerConfig) (s : State), ConfigValid cfg →
    ∃ cw, WordsOf cfg cw ∧ exec (.cbuild cfg) s = .next (onlyReplied s (.ok (.wordSet cw)))

/-- 41_control_packer.md R151, R156: CBUILD of an invalid config names the first violated field and returns no word;
the order is decision D6. -/
def Obligations.CbuildReportsTheFirstViolatedField : Prop :=
  (∀ (cfg : SequencerConfig) (f : Field) (s : State), FirstViolated cfg f →
    exec (.cbuild cfg) s = .next (onlyReplied s (.err (.validationError f)))) ∧
  (∀ cfg : SequencerConfig, ¬ ConfigValid cfg → ∃ f, FirstViolated cfg f)

/-- 30_encoding.md R92, R96: every word CBUILD returns has its slot's format, and the fields of the config come back
out of it. -/
def Obligations.CbuildWordsKeepFormatAndFields : Prop :=
  ∀ (cfg : SequencerConfig) (cw : ControlWordSet), cbuild params cfg = .ok cw →
    (∀ i : Fin 9, slotFormat i cw[i]) ∧
    cw[0].getLsbD 31 = !cfg.enable ∧ ((cw[0].extractLsb' 0 8).toNat : Int) = cfg.div ∧
    ((cw[1].extractLsb' 0 7).toNat : Int) = cfg.delay[0] ∧ ((cw[2].extractLsb' 0 7).toNat : Int) = cfg.delay[1] ∧
    ((cw[3].extractLsb' 0 7).toNat : Int) = cfg.delay[2] ∧ ((cw[4].extractLsb' 0 7).toNat : Int) = cfg.delay[3] ∧
    venc params cfg.volt[0] = .ok (cw[5].extractLsb' 0 16) ∧ venc params cfg.volt[1] = .ok (cw[6].extractLsb' 0 16) ∧
    venc params cfg.volt[2] = .ok (cw[7].extractLsb' 0 16) ∧ venc params cfg.volt[3] = .ok (cw[8].extractLsb' 0 16)

/-! ### The status register decoder -/

/-- 42_status_decoder.md R191, R192, R194: the three slices. -/
def Obligations.FieldExtractorResults : Prop :=
  ∀ (w : Word) (s : State),
    exec (.xdac w) s = .next (onlyReplied s (.ok (.volt (vdec (w.setWidth 16))))) ∧
    exec (.xsticky w) s = .next (onlyReplied s (.ok (.nibble (w.setWidth 4)))) ∧
    exec (.xdiv w) s = .next (onlyReplied s (.ok (.byte (w.setWidth 8))))

/-- 42_status_decoder.md R193, R200: the lowest set bit of bits 3:0, 1-based, 0 when none is set; never an error. -/
def Obligations.XstateReportsTheLowestSetBit : Prop :=
  ∀ (w : Word) (s : State), ∃ n : Fin 5,
    exec (.xstate w) s = .next (onlyReplied s (.ok (.stateNumber n))) ∧
    (n = 0 ↔ ∀ b < 4, w.getLsbD b = false) ∧
    (∀ b, b < 4 → (n.val = b + 1 ↔ w.getLsbD b = true ∧ ∀ a < b, w.getLsbD a = false))

/-- 42_status_decoder.md R195: SDEC's snapshot, field by field, with the raw words copied. -/
def Obligations.SdecResult : Prop :=
  ∀ (raw : RawWords) (s : State),
    exec (.sdec raw) s = .next (onlyReplied s (.ok (.snapshot
      { dacVoltage := vdec (raw[0].setWidth 16), sticky := raw[1].setWidth 4,
        currentState := xstate raw[2], divCounter := raw[3].setWidth 8, raw := raw })))

/-- 42_status_decoder.md R196: two inputs that agree on the four documented fields give snapshots that differ at most
in `raw`. -/
def Obligations.IgnoredBitsDoNotAffectDecodedFields : Prop :=
  ∀ a b : RawWords, a[0].setWidth 16 = b[0].setWidth 16 → a[1].setWidth 4 = b[1].setWidth 4 →
    a[2].setWidth 4 = b[2].setWidth 4 → a[3].setWidth 8 = b[3].setWidth 8 →
    sdec a = { sdec b with raw := a }

/-- 42_status_decoder.md R198: OHENC and that it is undone by XSTATE, and undoes it where at most one bit is set. -/
def Obligations.OhencResultAndLaws : Prop :=
  (∀ (n : Nat) (s : State), n ≤ 4 → ∃ b : Nibble,
    exec (.ohenc n) s = .next (onlyReplied s (.ok (.nibble b))) ∧
    (∀ k < 4, b.getLsbD k = decide (n = k + 1)) ∧
    (xstate (b.setWidth 32)).val = n) ∧
  (∀ w : Word, oneHot (xstate w).val = w.setWidth 4 ↔
    ∀ a b, a < 4 → b < 4 → w.getLsbD a = true → w.getLsbD b = true → a = b)

/-! ### Session operations -/

/-- 43_session_ops.md R221: DEPLOY from Unbound whose call succeeds; the device then holds any values, those that come
with the answer (10_state.md R45, log entry 6). -/
def Obligations.DeploySucceeds : Prop :=
  ∀ (s : State) (slot : Nat) (bitstream : List Byte) (policy : Nat) (h : Handle) (dev : DeviceRegs)
    (rest : List DeployAnswer), s.ss = .unbound → s.deployAnswers = .ok h dev :: rest →
    exec (.deploy slot bitstream policy) s = .next
      { s with ss := .deployed, handle := some h, cr := dev.cr, mr := dev.mr, deployAnswers := rest
               reply := some (.ok .nothing), calls := [.deploy slot bitstream policy] }

/-- 43_session_ops.md R221: DEPLOY whose call fails or times out: the block's state is as before, the device holds any
values (93_implementation_defined.md U18, log entry 14); outside Unbound it is refused (decision D10). -/
def Obligations.DeployFailsTimesOutOrIsRefused : Prop :=
  ∀ (s : State) (slot : Nat) (bitstream : List Byte) (policy : Nat) (dev : DeviceRegs) (rest : List DeployAnswer),
    (s.ss = .unbound → s.deployAnswers = .fail dev :: rest → exec (.deploy slot bitstream policy) s = .next
      { s with cr := dev.cr, mr := dev.mr, deployAnswers := rest, reply := some (.err .deploymentError)
               calls := [.deploy slot bitstream policy] }) ∧
    (s.ss = .unbound → s.deployAnswers = .tout dev :: rest → exec (.deploy slot bitstream policy) s = .next
      { s with cr := dev.cr, mr := dev.mr, deployAnswers := rest, reply := some (.err .transportTimeout)
               calls := [.deploy slot bitstream policy] }) ∧
    (s.ss ≠ .unbound → exec (.deploy slot bitstream policy) s = .refused .deployNotUnbound)

/-- 43_session_ops.md R222: CONFIGURE of a valid config in Deployed or Configured, all nine writes succeeding: the nine
words land, W0C is word 0, CFG_LAST the config. The order of the writes is decision D12, CONFIGURE from Configured D11,
the codes in the words rest on D2 and D3 (log entry 12). -/
def Obligations.ConfigureSucceeds : Prop :=
  ∀ (s : State) (cfg : SequencerConfig) (h : Handle) (rest : List WriteAnswer),
    s.ss ≠ .unbound → s.handle = some h → ConfigValid cfg →
    s.writeAnswers = List.replicate 9 WriteAnswer.ok ++ rest →
    ∃ cw, WordsOf cfg cw ∧ exec (.configure cfg) s = .next
      { s with ss := .configured, cfgLast := some cfg, w0c := cw[0], cr := cw, writeAnswers := rest
               reply := some (.ok .nothing), calls := (List.finRange 9).map fun i => .write h i cw[i] }

/-- 43_session_ops.md R222, R228: CONFIGURE while Unbound returns NotReady (its name is decision D8, its being checked
first D9) whatever the config, and an invalid config returns ValidationError with the first violated field (the order is
D6); no register access is issued and nothing changes. That an invalid config in Configured returns ValidationError and
is not refused rests on ALLOW_RECONFIGURE = true, decision D11 (log entry 12). -/
def Obligations.ConfigureRejectsWithoutAccess : Prop :=
  ∀ (s : State) (cfg : SequencerConfig),
    (s.ss = .unbound → exec (.configure cfg) s = .next (onlyReplied s (.err (.notReady .unbound)))) ∧
    (∀ f, s.ss ≠ .unbound → FirstViolated cfg f →
      exec (.configure cfg) s = .next (onlyReplied s (.err (.validationError f))))

/-- 43_session_ops.md R222, 20_memory.md R60: CONFIGURE whose write number k fails: the writes before it landed, write k
landed or not, later ones were not issued, and the block's state is as before. The order and stopping are decision D12,
CONFIGURE from Configured D11, the codes in the words rest on D2 and D3 (log entry 12); that a failed write changes no
other register is D23 (log entry 8). -/
def Obligations.ConfigureStopsAtTheFirstFailedWrite : Prop :=
  ∀ (s : State) (cfg : SequencerConfig) (h : Handle) (k : Fin 9) (timedOut landed : Bool) (rest : List WriteAnswer),
    s.ss ≠ .unbound → s.handle = some h → ConfigValid cfg →
    s.writeAnswers = List.replicate k.val WriteAnswer.ok ++ failedWrite timedOut landed :: rest →
    ∃ cw t, WordsOf cfg cw ∧ exec (.configure cfg) s = .next t ∧
      t = { s with cr := t.cr, writeAnswers := rest, reply := some (.err (accessError timedOut))
                   calls := ((List.finRange 9).take (k.val + 1)).map fun i => .write h i cw[i] } ∧
      ∀ j : Fin 9, t.cr[j] = if j < k ∨ (j = k ∧ landed = true) then cw[j] else s.cr[j]

/-- 70_reset_and_hazards.md R305: under every legal choice of the parameters, so for every order of the nine writes, a
CONFIGURE whose writes all succeed leaves the same device registers and the same block state. -/
def Obligations.ConfigureSucceedsForEveryWriteOrder : Prop :=
  ∀ (p : Params) (s : State) (cfg : SequencerConfig) (h : Handle) (rest : List WriteAnswer),
    p.Legal → s.ss = .deployed → s.handle = some h → ConfigValid cfg →
    s.writeAnswers = List.replicate 9 WriteAnswer.ok ++ rest →
    ∃ cw t, cbuild p cfg = .ok cw ∧ configureWith p cfg s = .next t ∧
      t = { s with ss := .configured, cfgLast := some cfg, w0c := cw[0], cr := cw, writeAnswers := rest
                   reply := some (.ok .nothing), calls := p.cfgWriteOrder.map fun i => .write h i cw[i] }

/-- 43_session_ops.md R223, R224: ENABLE and DISABLE in Configured whose write succeeds: one write of CR[0], W0C the
same word, bits 30:0 kept. -/
def Obligations.EnableAndDisableSucceed : Prop :=
  ∀ (s : State) (h : Handle) (rest : List WriteAnswer),
    s.ss = .configured → s.handle = some h → s.writeAnswers = .ok :: rest →
    exec .enable s = .next
      { s with w0c := s.w0c &&& 0x7FFFFFFF, cr := s.cr.set 0 (s.w0c &&& 0x7FFFFFFF), writeAnswers := rest
               reply := some (.ok .nothing), calls := [.write h 0 (s.w0c &&& 0x7FFFFFFF)] } ∧
    exec .disable s = .next
      { s with w0c := s.w0c ||| 0x80000000, cr := s.cr.set 0 (s.w0c ||| 0x80000000), writeAnswers := rest
               reply := some (.ok .nothing), calls := [.write h 0 (s.w0c ||| 0x80000000)] }

/-- 43_session_ops.md R223, R224: ENABLE and DISABLE before Configured return NotReady with the session state, write
nothing and change nothing. -/
def Obligations.EnableAndDisableNotReadyBeforeConfigured : Prop :=
  ∀ s : State, s.ss ≠ .configured →
    exec .enable s = .next (onlyReplied s (.err (.notReady s.ss))) ∧
    exec .disable s = .next (onlyReplied s (.err (.notReady s.ss)))

/-- 43_session_ops.md R223, R224, 20_memory.md R60: ENABLE and DISABLE whose write fails: CR[0] is the new word or the
old one, everything else as before. -/
def Obligations.EnableAndDisableFailedWrite : Prop :=
  ∀ (s : State) (h : Handle) (timedOut landed : Bool) (rest : List WriteAnswer),
    s.ss = .configured → s.handle = some h → s.writeAnswers = failedWrite timedOut landed :: rest →
    exec .enable s = .next
      { s with cr := if landed then s.cr.set 0 (s.w0c &&& 0x7FFFFFFF) else s.cr, writeAnswers := rest
               reply := some (.err (accessError timedOut)), calls := [.write h 0 (s.w0c &&& 0x7FFFFFFF)] } ∧
    exec .disable s = .next
      { s with cr := if landed then s.cr.set 0 (s.w0c ||| 0x80000000) else s.cr, writeAnswers := rest
               reply := some (.err (accessError timedOut)), calls := [.write h 0 (s.w0c ||| 0x80000000)] }

/-- 43_session_ops.md R225: STATUS in Deployed or Configured whose four reads succeed: the snapshot of the four words
read, each from the device as it stood at its own read; only MR, the device's own, has moved. The order is decision D13. -/
def Obligations.StatusSucceeds : Prop :=
  ∀ (s : State) (h : Handle) (m0 m1 m2 m3 : Vector Word 4) (rest : List ReadAnswer),
    s.ss ≠ .unbound → s.handle = some h →
    s.readAnswers = .ok m0 :: .ok m1 :: .ok m2 :: .ok m3 :: rest →
    exec .status s = .next
      { s with mr := m3, readAnswers := rest
               reply := some (.ok (.snapshot (sdec #v[m0[0], m1[1], m2[2], m3[3]])))
               calls := [.read h 0, .read h 1, .read h 2, .read h 3] }

/-- 43_session_ops.md R225: STATUS whose read number j fails returns the transport error and no snapshot; later reads
are not issued; nothing but MR, the device's own, has moved. -/
def Obligations.StatusStopsAtTheFirstFailedRead : Prop :=
  ∀ (s : State) (h : Handle) (before : List (Vector Word 4)) (timedOut : Bool) (rest : List ReadAnswer),
    s.ss ≠ .unbound → s.handle = some h → before.length < 4 →
    s.readAnswers = before.map ReadAnswer.ok ++ failedRead timedOut :: rest →
    exec .status s = .next
      { s with mr := before.getLastD s.mr, readAnswers := rest, reply := some (.err (accessError timedOut))
               calls := ((List.finRange 4).take (before.length + 1)).map fun j => .read h j }

/-- 43_session_ops.md R225: STATUS while Unbound returns Disconnected, as a result, with no read (decision D24). -/
def Obligations.StatusDisconnectedWhileUnbound : Prop :=
  ∀ s : State, s.ss = .unbound → exec .status s = .next (onlyReplied s (.ok .disconnected))

/-- 43_session_ops.md R226: RELEASE from Deployed or Configured ends Unbound whatever the transport answers, reports
whether it relinquished (decision D34) and makes the one call; the device then holds any values, those that come with
the answer (93_implementation_defined.md U18, log entry 14); W0C is unspecified after it (log entry 9). -/
def Obligations.ReleaseSucceeds : Prop :=
  ∀ (s : State) (h : Handle) (a : ReleaseAnswer) (rest : List ReleaseAnswer),
    s.ss ≠ .unbound → s.handle = some h → s.releaseAnswers = a :: rest →
    ∃ t, exec .release s = .next t ∧
      t = { s with ss := .unbound, handle := none, cfgLast := none, w0c := t.w0c, draws := t.draws
                   cr := a.device.cr, mr := a.device.mr
                   releaseAnswers := rest, reply := some (.ok (.relinquished a.relinquished))
                   calls := [.release h] }

/-- 43_session_ops.md R226: RELEASE while Unbound returns true, makes no call and changes nothing. -/
def Obligations.ReleaseIdempotentWhileUnbound : Prop :=
  ∀ s : State, s.ss = .unbound → exec .release s = .next (onlyReplied s (.ok (.relinquished true)))

/-- From a state that meets the invariant and whatever the transport answers, a listed answer or a free value, every
session operation returns an outcome: no call goes unanswered (70_reset_and_hazards.md R315). DEPLOY is spoken of from
Unbound, the one state that admits it (decision D10); that CONFIGURE returns in Configured too rests on
ALLOW_RECONFIGURE = true (decision D11, log entry 12). -/
def Obligations.SessionOperationsAlwaysReturn : Prop :=
  ∀ (s : State) (cfg : SequencerConfig), BlockInv s →
    (∃ t, exec (.configure cfg) s = .next t) ∧ (∃ t, exec .enable s = .next t) ∧ (∃ t, exec .disable s = .next t) ∧
    (∃ t, exec .status s = .next t) ∧ (∃ t, exec .release s = .next t) ∧
    (s.ss = .unbound → ∀ slot bitstream policy, ∃ t, exec (.deploy slot bitstream policy) s = .next t)

/-- 43_session_ops.md R225, 93_implementation_defined.md U16: under every legal choice of the parameters, so for every
order of the four reads, a STATUS whose reads all succeed returns the snapshot of the four words, word j from the device
as it stood at the read of MR[j], and changes nothing but MR, the device's own (log entry 7). -/
def Obligations.StatusSucceedsForEveryReadOrder : Prop :=
  ∀ (p : Params) (s : State) (h : Handle) (m : Fin 4 → Vector Word 4) (rest : List ReadAnswer),
    p.Legal → s.ss ≠ .unbound → s.handle = some h →
    s.readAnswers = p.statusReadOrder.map (fun j => ReadAnswer.ok (m j)) ++ rest →
    statusWith p s = .next
      { s with mr := (p.statusReadOrder.map m).getLastD s.mr, readAnswers := rest
               reply := some (.ok (.snapshot (sdec #v[(m 0)[0], (m 1)[1], (m 2)[2], (m 3)[3]])))
               calls := p.statusReadOrder.map fun j => .read h j }
end

