-- ==== Sys2Proof/Laws/State.lean ====
section
/-! SUPPORT. One lemma per field per update of State, and what each input-consuming update leaves alone. -/

namespace Sys2Proof.Machine
@[simp] theorem State.begin_ss (s : State) : (s.begin).ss = s.ss := rfl
@[simp] theorem State.begin_handle (s : State) : (s.begin).handle = s.handle := rfl
@[simp] theorem State.begin_cfgLast (s : State) : (s.begin).cfgLast = s.cfgLast := rfl
@[simp] theorem State.begin_w0c (s : State) : (s.begin).w0c = s.w0c := rfl
@[simp] theorem State.begin_cr (s : State) : (s.begin).cr = s.cr := rfl
@[simp] theorem State.begin_mr (s : State) : (s.begin).mr = s.mr := rfl
@[simp] theorem State.begin_pending (s : State) : (s.begin).pending = s.pending := rfl
@[simp] theorem State.begin_deployAnswers (s : State) : (s.begin).deployAnswers = s.deployAnswers := rfl
@[simp] theorem State.begin_writeAnswers (s : State) : (s.begin).writeAnswers = s.writeAnswers := rfl
@[simp] theorem State.begin_readAnswers (s : State) : (s.begin).readAnswers = s.readAnswers := rfl
@[simp] theorem State.begin_releaseAnswers (s : State) : (s.begin).releaseAnswers = s.releaseAnswers := rfl
@[simp] theorem State.begin_draws (s : State) : (s.begin).draws = s.draws := rfl
@[simp] theorem State.begin_reply (s : State) : (s.begin).reply = s.reply := rfl
@[simp] theorem State.begin_calls (s : State) : (s.begin).calls = [] := rfl

@[simp] theorem State.answer_ss (s : State) (r : Result) : (s.answer r).ss = s.ss := rfl
@[simp] theorem State.answer_handle (s : State) (r : Result) : (s.answer r).handle = s.handle := rfl
@[simp] theorem State.answer_cfgLast (s : State) (r : Result) : (s.answer r).cfgLast = s.cfgLast := rfl
@[simp] theorem State.answer_w0c (s : State) (r : Result) : (s.answer r).w0c = s.w0c := rfl
@[simp] theorem State.answer_cr (s : State) (r : Result) : (s.answer r).cr = s.cr := rfl
@[simp] theorem State.answer_mr (s : State) (r : Result) : (s.answer r).mr = s.mr := rfl
@[simp] theorem State.answer_pending (s : State) (r : Result) : (s.answer r).pending = s.pending := rfl
@[simp] theorem State.answer_deployAnswers (s : State) (r : Result) : (s.answer r).deployAnswers = s.deployAnswers := rfl
@[simp] theorem State.answer_writeAnswers (s : State) (r : Result) : (s.answer r).writeAnswers = s.writeAnswers := rfl
@[simp] theorem State.answer_readAnswers (s : State) (r : Result) : (s.answer r).readAnswers = s.readAnswers := rfl
@[simp] theorem State.answer_releaseAnswers (s : State) (r : Result) : (s.answer r).releaseAnswers = s.releaseAnswers := rfl
@[simp] theorem State.answer_draws (s : State) (r : Result) : (s.answer r).draws = s.draws := rfl
@[simp] theorem State.answer_reply (s : State) (r : Result) : (s.answer r).reply = some (.ok r) := rfl
@[simp] theorem State.answer_calls (s : State) (r : Result) : (s.answer r).calls = s.calls := rfl

@[simp] theorem State.fail_ss (s : State) (e : OpError) : (s.fail e).ss = s.ss := rfl
@[simp] theorem State.fail_handle (s : State) (e : OpError) : (s.fail e).handle = s.handle := rfl
@[simp] theorem State.fail_cfgLast (s : State) (e : OpError) : (s.fail e).cfgLast = s.cfgLast := rfl
@[simp] theorem State.fail_w0c (s : State) (e : OpError) : (s.fail e).w0c = s.w0c := rfl
@[simp] theorem State.fail_cr (s : State) (e : OpError) : (s.fail e).cr = s.cr := rfl
@[simp] theorem State.fail_mr (s : State) (e : OpError) : (s.fail e).mr = s.mr := rfl
@[simp] theorem State.fail_pending (s : State) (e : OpError) : (s.fail e).pending = s.pending := rfl
@[simp] theorem State.fail_deployAnswers (s : State) (e : OpError) : (s.fail e).deployAnswers = s.deployAnswers := rfl
@[simp] theorem State.fail_writeAnswers (s : State) (e : OpError) : (s.fail e).writeAnswers = s.writeAnswers := rfl
@[simp] theorem State.fail_readAnswers (s : State) (e : OpError) : (s.fail e).readAnswers = s.readAnswers := rfl
@[simp] theorem State.fail_releaseAnswers (s : State) (e : OpError) : (s.fail e).releaseAnswers = s.releaseAnswers := rfl
@[simp] theorem State.fail_draws (s : State) (e : OpError) : (s.fail e).draws = s.draws := rfl
@[simp] theorem State.fail_reply (s : State) (e : OpError) : (s.fail e).reply = some (.err e) := rfl
@[simp] theorem State.fail_calls (s : State) (e : OpError) : (s.fail e).calls = s.calls := rfl

@[simp] theorem State.pureAnswer_ss (s : State) (r : Result) : (s.pureAnswer r).ss = s.ss := rfl
@[simp] theorem State.pureAnswer_handle (s : State) (r : Result) : (s.pureAnswer r).handle = s.handle := rfl
@[simp] theorem State.pureAnswer_cfgLast (s : State) (r : Result) : (s.pureAnswer r).cfgLast = s.cfgLast := rfl
@[simp] theorem State.pureAnswer_w0c (s : State) (r : Result) : (s.pureAnswer r).w0c = s.w0c := rfl
@[simp] theorem State.pureAnswer_cr (s : State) (r : Result) : (s.pureAnswer r).cr = s.cr := rfl
@[simp] theorem State.pureAnswer_mr (s : State) (r : Result) : (s.pureAnswer r).mr = s.mr := rfl
@[simp] theorem State.pureAnswer_pending (s : State) (r : Result) : (s.pureAnswer r).pending = s.pending := rfl
@[simp] theorem State.pureAnswer_deployAnswers (s : State) (r : Result) : (s.pureAnswer r).deployAnswers = s.deployAnswers := rfl
@[simp] theorem State.pureAnswer_writeAnswers (s : State) (r : Result) : (s.pureAnswer r).writeAnswers = s.writeAnswers := rfl
@[simp] theorem State.pureAnswer_readAnswers (s : State) (r : Result) : (s.pureAnswer r).readAnswers = s.readAnswers := rfl
@[simp] theorem State.pureAnswer_releaseAnswers (s : State) (r : Result) : (s.pureAnswer r).releaseAnswers = s.releaseAnswers := rfl
@[simp] theorem State.pureAnswer_draws (s : State) (r : Result) : (s.pureAnswer r).draws = s.draws := rfl
@[simp] theorem State.pureAnswer_reply (s : State) (r : Result) : (s.pureAnswer r).reply = some (.ok r) := rfl
@[simp] theorem State.pureAnswer_calls (s : State) (r : Result) : (s.pureAnswer r).calls = [] := rfl

@[simp] theorem State.record_ss (s : State) (c : Call) : (s.record c).ss = s.ss := rfl
@[simp] theorem State.record_handle (s : State) (c : Call) : (s.record c).handle = s.handle := rfl
@[simp] theorem State.record_cfgLast (s : State) (c : Call) : (s.record c).cfgLast = s.cfgLast := rfl
@[simp] theorem State.record_w0c (s : State) (c : Call) : (s.record c).w0c = s.w0c := rfl
@[simp] theorem State.record_cr (s : State) (c : Call) : (s.record c).cr = s.cr := rfl
@[simp] theorem State.record_mr (s : State) (c : Call) : (s.record c).mr = s.mr := rfl
@[simp] theorem State.record_pending (s : State) (c : Call) : (s.record c).pending = s.pending := rfl
@[simp] theorem State.record_deployAnswers (s : State) (c : Call) : (s.record c).deployAnswers = s.deployAnswers := rfl
@[simp] theorem State.record_writeAnswers (s : State) (c : Call) : (s.record c).writeAnswers = s.writeAnswers := rfl
@[simp] theorem State.record_readAnswers (s : State) (c : Call) : (s.record c).readAnswers = s.readAnswers := rfl
@[simp] theorem State.record_releaseAnswers (s : State) (c : Call) : (s.record c).releaseAnswers = s.releaseAnswers := rfl
@[simp] theorem State.record_draws (s : State) (c : Call) : (s.record c).draws = s.draws := rfl
@[simp] theorem State.record_reply (s : State) (c : Call) : (s.record c).reply = s.reply := rfl
@[simp] theorem State.record_calls (s : State) (c : Call) : (s.record c).calls = s.calls ++ [c] := rfl

@[simp] theorem State.setCr_ss (s : State) (i : Fin 9) (w : Word) : (s.setCr i w).ss = s.ss := rfl
@[simp] theorem State.setCr_handle (s : State) (i : Fin 9) (w : Word) : (s.setCr i w).handle = s.handle := rfl
@[simp] theorem State.setCr_cfgLast (s : State) (i : Fin 9) (w : Word) : (s.setCr i w).cfgLast = s.cfgLast := rfl
@[simp] theorem State.setCr_w0c (s : State) (i : Fin 9) (w : Word) : (s.setCr i w).w0c = s.w0c := rfl
@[simp] theorem State.setCr_cr (s : State) (i : Fin 9) (w : Word) : (s.setCr i w).cr = s.cr.set i w := rfl
@[simp] theorem State.setCr_mr (s : State) (i : Fin 9) (w : Word) : (s.setCr i w).mr = s.mr := rfl
@[simp] theorem State.setCr_pending (s : State) (i : Fin 9) (w : Word) : (s.setCr i w).pending = s.pending := rfl
@[simp] theorem State.setCr_deployAnswers (s : State) (i : Fin 9) (w : Word) : (s.setCr i w).deployAnswers = s.deployAnswers := rfl
@[simp] theorem State.setCr_writeAnswers (s : State) (i : Fin 9) (w : Word) : (s.setCr i w).writeAnswers = s.writeAnswers := rfl
@[simp] theorem State.setCr_readAnswers (s : State) (i : Fin 9) (w : Word) : (s.setCr i w).readAnswers = s.readAnswers := rfl
@[simp] theorem State.setCr_releaseAnswers (s : State) (i : Fin 9) (w : Word) : (s.setCr i w).releaseAnswers = s.releaseAnswers := rfl
@[simp] theorem State.setCr_draws (s : State) (i : Fin 9) (w : Word) : (s.setCr i w).draws = s.draws := rfl
@[simp] theorem State.setCr_reply (s : State) (i : Fin 9) (w : Word) : (s.setCr i w).reply = s.reply := rfl
@[simp] theorem State.setCr_calls (s : State) (i : Fin 9) (w : Word) : (s.setCr i w).calls = s.calls := rfl

@[simp] theorem State.deviceShows_ss (s : State) (mr : Vector Word 4) : (s.deviceShows mr).ss = s.ss := rfl
@[simp] theorem State.deviceShows_handle (s : State) (mr : Vector Word 4) : (s.deviceShows mr).handle = s.handle := rfl
@[simp] theorem State.deviceShows_cfgLast (s : State) (mr : Vector Word 4) : (s.deviceShows mr).cfgLast = s.cfgLast := rfl
@[simp] theorem State.deviceShows_w0c (s : State) (mr : Vector Word 4) : (s.deviceShows mr).w0c = s.w0c := rfl
@[simp] theorem State.deviceShows_cr (s : State) (mr : Vector Word 4) : (s.deviceShows mr).cr = s.cr := rfl
@[simp] theorem State.deviceShows_mr (s : State) (mr : Vector Word 4) : (s.deviceShows mr).mr = mr := rfl
@[simp] theorem State.deviceShows_pending (s : State) (mr : Vector Word 4) : (s.deviceShows mr).pending = s.pending := rfl
@[simp] theorem State.deviceShows_deployAnswers (s : State) (mr : Vector Word 4) : (s.deviceShows mr).deployAnswers = s.deployAnswers := rfl
@[simp] theorem State.deviceShows_writeAnswers (s : State) (mr : Vector Word 4) : (s.deviceShows mr).writeAnswers = s.writeAnswers := rfl
@[simp] theorem State.deviceShows_readAnswers (s : State) (mr : Vector Word 4) : (s.deviceShows mr).readAnswers = s.readAnswers := rfl
@[simp] theorem State.deviceShows_releaseAnswers (s : State) (mr : Vector Word 4) : (s.deviceShows mr).releaseAnswers = s.releaseAnswers := rfl
@[simp] theorem State.deviceShows_draws (s : State) (mr : Vector Word 4) : (s.deviceShows mr).draws = s.draws := rfl
@[simp] theorem State.deviceShows_reply (s : State) (mr : Vector Word 4) : (s.deviceShows mr).reply = s.reply := rfl
@[simp] theorem State.deviceShows_calls (s : State) (mr : Vector Word 4) : (s.deviceShows mr).calls = s.calls := rfl

@[simp] theorem State.deviceHolds_ss (s : State) (dev : DeviceRegs) : (s.deviceHolds dev).ss = s.ss := rfl
@[simp] theorem State.deviceHolds_handle (s : State) (dev : DeviceRegs) : (s.deviceHolds dev).handle = s.handle := rfl
@[simp] theorem State.deviceHolds_cfgLast (s : State) (dev : DeviceRegs) : (s.deviceHolds dev).cfgLast = s.cfgLast := rfl
@[simp] theorem State.deviceHolds_w0c (s : State) (dev : DeviceRegs) : (s.deviceHolds dev).w0c = s.w0c := rfl
@[simp] theorem State.deviceHolds_cr (s : State) (dev : DeviceRegs) : (s.deviceHolds dev).cr = dev.cr := rfl
@[simp] theorem State.deviceHolds_mr (s : State) (dev : DeviceRegs) : (s.deviceHolds dev).mr = dev.mr := rfl
@[simp] theorem State.deviceHolds_pending (s : State) (dev : DeviceRegs) : (s.deviceHolds dev).pending = s.pending := rfl
@[simp] theorem State.deviceHolds_deployAnswers (s : State) (dev : DeviceRegs) : (s.deviceHolds dev).deployAnswers = s.deployAnswers := rfl
@[simp] theorem State.deviceHolds_writeAnswers (s : State) (dev : DeviceRegs) : (s.deviceHolds dev).writeAnswers = s.writeAnswers := rfl
@[simp] theorem State.deviceHolds_readAnswers (s : State) (dev : DeviceRegs) : (s.deviceHolds dev).readAnswers = s.readAnswers := rfl
@[simp] theorem State.deviceHolds_releaseAnswers (s : State) (dev : DeviceRegs) : (s.deviceHolds dev).releaseAnswers = s.releaseAnswers := rfl
@[simp] theorem State.deviceHolds_draws (s : State) (dev : DeviceRegs) : (s.deviceHolds dev).draws = s.draws := rfl
@[simp] theorem State.deviceHolds_reply (s : State) (dev : DeviceRegs) : (s.deviceHolds dev).reply = s.reply := rfl
@[simp] theorem State.deviceHolds_calls (s : State) (dev : DeviceRegs) : (s.deviceHolds dev).calls = s.calls := rfl

@[simp] theorem State.dropDeployAnswer_ss (s : State) : s.dropDeployAnswer.ss = s.ss := by
  unfold State.dropDeployAnswer; cases s.deployAnswers <;> rfl
@[simp] theorem State.dropDeployAnswer_handle (s : State) : s.dropDeployAnswer.handle = s.handle := by
  unfold State.dropDeployAnswer; cases s.deployAnswers <;> rfl
@[simp] theorem State.dropDeployAnswer_cfgLast (s : State) : s.dropDeployAnswer.cfgLast = s.cfgLast := by
  unfold State.dropDeployAnswer; cases s.deployAnswers <;> rfl
@[simp] theorem State.dropDeployAnswer_w0c (s : State) : s.dropDeployAnswer.w0c = s.w0c := by
  unfold State.dropDeployAnswer; cases s.deployAnswers <;> rfl
@[simp] theorem State.dropDeployAnswer_cr (s : State) : s.dropDeployAnswer.cr = s.cr := by
  unfold State.dropDeployAnswer; cases s.deployAnswers <;> rfl
@[simp] theorem State.dropDeployAnswer_mr (s : State) : s.dropDeployAnswer.mr = s.mr := by
  unfold State.dropDeployAnswer; cases s.deployAnswers <;> rfl
@[simp] theorem State.dropDeployAnswer_pending (s : State) : s.dropDeployAnswer.pending = s.pending := by
  unfold State.dropDeployAnswer; cases s.deployAnswers <;> rfl
@[simp] theorem State.dropDeployAnswer_deployAnswers (s : State) : s.dropDeployAnswer.deployAnswers = s.deployAnswers.tail := by
  unfold State.dropDeployAnswer; cases s.deployAnswers <;> simp
@[simp] theorem State.dropDeployAnswer_writeAnswers (s : State) : s.dropDeployAnswer.writeAnswers = s.writeAnswers := by
  unfold State.dropDeployAnswer; cases s.deployAnswers <;> rfl
@[simp] theorem State.dropDeployAnswer_readAnswers (s : State) : s.dropDeployAnswer.readAnswers = s.readAnswers := by
  unfold State.dropDeployAnswer; cases s.deployAnswers <;> rfl
@[simp] theorem State.dropDeployAnswer_releaseAnswers (s : State) : s.dropDeployAnswer.releaseAnswers = s.releaseAnswers := by
  unfold State.dropDeployAnswer; cases s.deployAnswers <;> rfl
theorem State.dropDeployAnswer_draws (s : State) :
    s.dropDeployAnswer.draws = if s.deployAnswers = [] then s.draws + 1 else s.draws := by
  unfold State.dropDeployAnswer; cases s.deployAnswers <;> rfl
@[simp] theorem State.dropDeployAnswer_reply (s : State) : s.dropDeployAnswer.reply = s.reply := by
  unfold State.dropDeployAnswer; cases s.deployAnswers <;> rfl
@[simp] theorem State.dropDeployAnswer_calls (s : State) : s.dropDeployAnswer.calls = s.calls := by
  unfold State.dropDeployAnswer; cases s.deployAnswers <;> rfl

@[simp] theorem State.dropWriteAnswer_ss (s : State) : s.dropWriteAnswer.ss = s.ss := by
  unfold State.dropWriteAnswer; cases s.writeAnswers <;> rfl
@[simp] theorem State.dropWriteAnswer_handle (s : State) : s.dropWriteAnswer.handle = s.handle := by
  unfold State.dropWriteAnswer; cases s.writeAnswers <;> rfl
@[simp] theorem State.dropWriteAnswer_cfgLast (s : State) : s.dropWriteAnswer.cfgLast = s.cfgLast := by
  unfold State.dropWriteAnswer; cases s.writeAnswers <;> rfl
@[simp] theorem State.dropWriteAnswer_w0c (s : State) : s.dropWriteAnswer.w0c = s.w0c := by
  unfold State.dropWriteAnswer; cases s.writeAnswers <;> rfl
@[simp] theorem State.dropWriteAnswer_cr (s : State) : s.dropWriteAnswer.cr = s.cr := by
  unfold State.dropWriteAnswer; cases s.writeAnswers <;> rfl
@[simp] theorem State.dropWriteAnswer_mr (s : State) : s.dropWriteAnswer.mr = s.mr := by
  unfold State.dropWriteAnswer; cases s.writeAnswers <;> rfl
@[simp] theorem State.dropWriteAnswer_pending (s : State) : s.dropWriteAnswer.pending = s.pending := by
  unfold State.dropWriteAnswer; cases s.writeAnswers <;> rfl
@[simp] theorem State.dropWriteAnswer_deployAnswers (s : State) : s.dropWriteAnswer.deployAnswers = s.deployAnswers := by
  unfold State.dropWriteAnswer; cases s.writeAnswers <;> rfl
@[simp] theorem State.dropWriteAnswer_writeAnswers (s : State) : s.dropWriteAnswer.writeAnswers = s.writeAnswers.tail := by
  unfold State.dropWriteAnswer; cases s.writeAnswers <;> simp
@[simp] theorem State.dropWriteAnswer_readAnswers (s : State) : s.dropWriteAnswer.readAnswers = s.readAnswers := by
  unfold State.dropWriteAnswer; cases s.writeAnswers <;> rfl
@[simp] theorem State.dropWriteAnswer_releaseAnswers (s : State) : s.dropWriteAnswer.releaseAnswers = s.releaseAnswers := by
  unfold State.dropWriteAnswer; cases s.writeAnswers <;> rfl
theorem State.dropWriteAnswer_draws (s : State) :
    s.dropWriteAnswer.draws = if s.writeAnswers = [] then s.draws + 1 else s.draws := by
  unfold State.dropWriteAnswer; cases s.writeAnswers <;> rfl
@[simp] theorem State.dropWriteAnswer_reply (s : State) : s.dropWriteAnswer.reply = s.reply := by
  unfold State.dropWriteAnswer; cases s.writeAnswers <;> rfl
@[simp] theorem State.dropWriteAnswer_calls (s : State) : s.dropWriteAnswer.calls = s.calls := by
  unfold State.dropWriteAnswer; cases s.writeAnswers <;> rfl

@[simp] theorem State.dropReadAnswer_ss (s : State) : s.dropReadAnswer.ss = s.ss := by
  unfold State.dropReadAnswer; cases s.readAnswers <;> rfl
@[simp] theorem State.dropReadAnswer_handle (s : State) : s.dropReadAnswer.handle = s.handle := by
  unfold State.dropReadAnswer; cases s.readAnswers <;> rfl
@[simp] theorem State.dropReadAnswer_cfgLast (s : State) : s.dropReadAnswer.cfgLast = s.cfgLast := by
  unfold State.dropReadAnswer; cases s.readAnswers <;> rfl
@[simp] theorem State.dropReadAnswer_w0c (s : State) : s.dropReadAnswer.w0c = s.w0c := by
  unfold State.dropReadAnswer; cases s.readAnswers <;> rfl
@[simp] theorem State.dropReadAnswer_cr (s : State) : s.dropReadAnswer.cr = s.cr := by
  unfold State.dropReadAnswer; cases s.readAnswers <;> rfl
@[simp] theorem State.dropReadAnswer_mr (s : State) : s.dropReadAnswer.mr = s.mr := by
  unfold State.dropReadAnswer; cases s.readAnswers <;> rfl
@[simp] theorem State.dropReadAnswer_pending (s : State) : s.dropReadAnswer.pending = s.pending := by
  unfold State.dropReadAnswer; cases s.readAnswers <;> rfl
@[simp] theorem State.dropReadAnswer_deployAnswers (s : State) : s.dropReadAnswer.deployAnswers = s.deployAnswers := by
  unfold State.dropReadAnswer; cases s.readAnswers <;> rfl
@[simp] theorem State.dropReadAnswer_writeAnswers (s : State) : s.dropReadAnswer.writeAnswers = s.writeAnswers := by
  unfold State.dropReadAnswer; cases s.readAnswers <;> rfl
@[simp] theorem State.dropReadAnswer_readAnswers (s : State) : s.dropReadAnswer.readAnswers = s.readAnswers.tail := by
  unfold State.dropReadAnswer; cases s.readAnswers <;> simp
@[simp] theorem State.dropReadAnswer_releaseAnswers (s : State) : s.dropReadAnswer.releaseAnswers = s.releaseAnswers := by
  unfold State.dropReadAnswer; cases s.readAnswers <;> rfl
theorem State.dropReadAnswer_draws (s : State) :
    s.dropReadAnswer.draws = if s.readAnswers = [] then s.draws + 1 else s.draws := by
  unfold State.dropReadAnswer; cases s.readAnswers <;> rfl
@[simp] theorem State.dropReadAnswer_reply (s : State) : s.dropReadAnswer.reply = s.reply := by
  unfold State.dropReadAnswer; cases s.readAnswers <;> rfl
@[simp] theorem State.dropReadAnswer_calls (s : State) : s.dropReadAnswer.calls = s.calls := by
  unfold State.dropReadAnswer; cases s.readAnswers <;> rfl

@[simp] theorem State.dropReleaseAnswer_ss (s : State) : s.dropReleaseAnswer.ss = s.ss := by
  unfold State.dropReleaseAnswer; cases s.releaseAnswers <;> rfl
@[simp] theorem State.dropReleaseAnswer_handle (s : State) : s.dropReleaseAnswer.handle = s.handle := by
  unfold State.dropReleaseAnswer; cases s.releaseAnswers <;> rfl
@[simp] theorem State.dropReleaseAnswer_cfgLast (s : State) : s.dropReleaseAnswer.cfgLast = s.cfgLast := by
  unfold State.dropReleaseAnswer; cases s.releaseAnswers <;> rfl
@[simp] theorem State.dropReleaseAnswer_w0c (s : State) : s.dropReleaseAnswer.w0c = s.w0c := by
  unfold State.dropReleaseAnswer; cases s.releaseAnswers <;> rfl
@[simp] theorem State.dropReleaseAnswer_cr (s : State) : s.dropReleaseAnswer.cr = s.cr := by
  unfold State.dropReleaseAnswer; cases s.releaseAnswers <;> rfl
@[simp] theorem State.dropReleaseAnswer_mr (s : State) : s.dropReleaseAnswer.mr = s.mr := by
  unfold State.dropReleaseAnswer; cases s.releaseAnswers <;> rfl
@[simp] theorem State.dropReleaseAnswer_pending (s : State) : s.dropReleaseAnswer.pending = s.pending := by
  unfold State.dropReleaseAnswer; cases s.releaseAnswers <;> rfl
@[simp] theorem State.dropReleaseAnswer_deployAnswers (s : State) : s.dropReleaseAnswer.deployAnswers = s.deployAnswers := by
  unfold State.dropReleaseAnswer; cases s.releaseAnswers <;> rfl
@[simp] theorem State.dropReleaseAnswer_writeAnswers (s : State) : s.dropReleaseAnswer.writeAnswers = s.writeAnswers := by
  unfold State.dropReleaseAnswer; cases s.releaseAnswers <;> rfl
@[simp] theorem State.dropReleaseAnswer_readAnswers (s : State) : s.dropReleaseAnswer.readAnswers = s.readAnswers := by
  unfold State.dropReleaseAnswer; cases s.releaseAnswers <;> rfl
@[simp] theorem State.dropReleaseAnswer_releaseAnswers (s : State) : s.dropReleaseAnswer.releaseAnswers = s.releaseAnswers.tail := by
  unfold State.dropReleaseAnswer; cases s.releaseAnswers <;> simp
theorem State.dropReleaseAnswer_draws (s : State) :
    s.dropReleaseAnswer.draws = if s.releaseAnswers = [] then s.draws + 1 else s.draws := by
  unfold State.dropReleaseAnswer; cases s.releaseAnswers <;> rfl
@[simp] theorem State.dropReleaseAnswer_reply (s : State) : s.dropReleaseAnswer.reply = s.reply := by
  unfold State.dropReleaseAnswer; cases s.releaseAnswers <;> rfl
@[simp] theorem State.dropReleaseAnswer_calls (s : State) : s.dropReleaseAnswer.calls = s.calls := by
  unfold State.dropReleaseAnswer; cases s.releaseAnswers <;> rfl

@[simp] theorem State.setCrIf_ss (s : State) (l : Bool) (i : Fin 9) (w : Word) :
    (s.setCrIf l i w).ss = s.ss := by
  cases l <;> rfl
@[simp] theorem State.writeEffect_ss (s : State) (a : WriteAnswer) (i : Fin 9) (w : Word) :
    (s.writeEffect a i w).ss = s.ss := by
  cases a <;> simp [State.writeEffect]
@[simp] theorem State.setCrIf_handle (s : State) (l : Bool) (i : Fin 9) (w : Word) :
    (s.setCrIf l i w).handle = s.handle := by
  cases l <;> rfl
@[simp] theorem State.writeEffect_handle (s : State) (a : WriteAnswer) (i : Fin 9) (w : Word) :
    (s.writeEffect a i w).handle = s.handle := by
  cases a <;> simp [State.writeEffect]
@[simp] theorem State.setCrIf_cfgLast (s : State) (l : Bool) (i : Fin 9) (w : Word) :
    (s.setCrIf l i w).cfgLast = s.cfgLast := by
  cases l <;> rfl
@[simp] theorem State.writeEffect_cfgLast (s : State) (a : WriteAnswer) (i : Fin 9) (w : Word) :
    (s.writeEffect a i w).cfgLast = s.cfgLast := by
  cases a <;> simp [State.writeEffect]
@[simp] theorem State.setCrIf_w0c (s : State) (l : Bool) (i : Fin 9) (w : Word) :
    (s.setCrIf l i w).w0c = s.w0c := by
  cases l <;> rfl
@[simp] theorem State.writeEffect_w0c (s : State) (a : WriteAnswer) (i : Fin 9) (w : Word) :
    (s.writeEffect a i w).w0c = s.w0c := by
  cases a <;> simp [State.writeEffect]
@[simp] theorem State.setCrIf_mr (s : State) (l : Bool) (i : Fin 9) (w : Word) :
    (s.setCrIf l i w).mr = s.mr := by
  cases l <;> rfl
@[simp] theorem State.writeEffect_mr (s : State) (a : WriteAnswer) (i : Fin 9) (w : Word) :
    (s.writeEffect a i w).mr = s.mr := by
  cases a <;> simp [State.writeEffect]
@[simp] theorem State.setCrIf_pending (s : State) (l : Bool) (i : Fin 9) (w : Word) :
    (s.setCrIf l i w).pending = s.pending := by
  cases l <;> rfl
@[simp] theorem State.writeEffect_pending (s : State) (a : WriteAnswer) (i : Fin 9) (w : Word) :
    (s.writeEffect a i w).pending = s.pending := by
  cases a <;> simp [State.writeEffect]
@[simp] theorem State.setCrIf_deployAnswers (s : State) (l : Bool) (i : Fin 9) (w : Word) :
    (s.setCrIf l i w).deployAnswers = s.deployAnswers := by
  cases l <;> rfl
@[simp] theorem State.writeEffect_deployAnswers (s : State) (a : WriteAnswer) (i : Fin 9) (w : Word) :
    (s.writeEffect a i w).deployAnswers = s.deployAnswers := by
  cases a <;> simp [State.writeEffect]
@[simp] theorem State.setCrIf_writeAnswers (s : State) (l : Bool) (i : Fin 9) (w : Word) :
    (s.setCrIf l i w).writeAnswers = s.writeAnswers := by
  cases l <;> rfl
@[simp] theorem State.writeEffect_writeAnswers (s : State) (a : WriteAnswer) (i : Fin 9) (w : Word) :
    (s.writeEffect a i w).writeAnswers = s.writeAnswers := by
  cases a <;> simp [State.writeEffect]
@[simp] theorem State.setCrIf_readAnswers (s : State) (l : Bool) (i : Fin 9) (w : Word) :
    (s.setCrIf l i w).readAnswers = s.readAnswers := by
  cases l <;> rfl
@[simp] theorem State.writeEffect_readAnswers (s : State) (a : WriteAnswer) (i : Fin 9) (w : Word) :
    (s.writeEffect a i w).readAnswers = s.readAnswers := by
  cases a <;> simp [State.writeEffect]
@[simp] theorem State.setCrIf_releaseAnswers (s : State) (l : Bool) (i : Fin 9) (w : Word) :
    (s.setCrIf l i w).releaseAnswers = s.releaseAnswers := by
  cases l <;> rfl
@[simp] theorem State.writeEffect_releaseAnswers (s : State) (a : WriteAnswer) (i : Fin 9) (w : Word) :
    (s.writeEffect a i w).releaseAnswers = s.releaseAnswers := by
  cases a <;> simp [State.writeEffect]
@[simp] theorem State.setCrIf_draws (s : State) (l : Bool) (i : Fin 9) (w : Word) :
    (s.setCrIf l i w).draws = s.draws := by
  cases l <;> rfl
@[simp] theorem State.writeEffect_draws (s : State) (a : WriteAnswer) (i : Fin 9) (w : Word) :
    (s.writeEffect a i w).draws = s.draws := by
  cases a <;> simp [State.writeEffect]
@[simp] theorem State.setCrIf_reply (s : State) (l : Bool) (i : Fin 9) (w : Word) :
    (s.setCrIf l i w).reply = s.reply := by
  cases l <;> rfl
@[simp] theorem State.writeEffect_reply (s : State) (a : WriteAnswer) (i : Fin 9) (w : Word) :
    (s.writeEffect a i w).reply = s.reply := by
  cases a <;> simp [State.writeEffect]
@[simp] theorem State.setCrIf_calls (s : State) (l : Bool) (i : Fin 9) (w : Word) :
    (s.setCrIf l i w).calls = s.calls := by
  cases l <;> rfl
@[simp] theorem State.writeEffect_calls (s : State) (a : WriteAnswer) (i : Fin 9) (w : Word) :
    (s.writeEffect a i w).calls = s.calls := by
  cases a <;> simp [State.writeEffect]

end Sys2Proof.Machine
end

