-- ==== Sys2Proof/Laws/Ops.lean ====
section
/-! SUPPORT. For each shared operation one lemma that says everything it can do, whatever the transport answers. -/

namespace Sys2Proof.Machine

/-- DevWrite changes the addressed register or nothing on the device, uses one answer, issues one call; without an
error the write has landed. -/
theorem devWrite_spec (h : Handle) (i : Fin 9) (w : Word) (s : State) :
    ∃ landed : Bool,
      (devWrite h i w s).2 =
        { s with cr := if landed then s.cr.set i w else s.cr, writeAnswers := s.writeAnswers.tail
                 draws := (devWrite h i w s).2.draws, calls := s.calls ++ [.write h i w] } ∧
      ((devWrite h i w s).1 = none ∧ landed = true ∨ (devWrite h i w s).1 = some .transportError ∨
        (devWrite h i w s).1 = some .transportTimeout) := by
  unfold devWrite
  cases hq : s.writeAnswers with
  | nil =>
    generalize hn : s.nextWriteAnswer = a
    cases a with
    | ok => exact ⟨true, by simp [State.dropWriteAnswer, hq, State.record, State.writeEffect, State.setCr], by simp [writeError]⟩
    | terr l => exact ⟨l, by cases l <;> simp [State.dropWriteAnswer, hq, State.record, State.writeEffect, State.setCrIf, State.setCr], by simp [writeError]⟩
    | tout l => exact ⟨l, by cases l <;> simp [State.dropWriteAnswer, hq, State.record, State.writeEffect, State.setCrIf, State.setCr], by simp [writeError]⟩
  | cons b rest =>
    have hn : s.nextWriteAnswer = b := by simp [State.nextWriteAnswer, hq]
    rw [hn]
    cases b with
    | ok => exact ⟨true, by simp [State.dropWriteAnswer, hq, State.record, State.writeEffect, State.setCr], by simp [writeError]⟩
    | terr l => exact ⟨l, by cases l <;> simp [State.dropWriteAnswer, hq, State.record, State.writeEffect, State.setCrIf, State.setCr], by simp [writeError]⟩
    | tout l => exact ⟨l, by cases l <;> simp [State.dropWriteAnswer, hq, State.record, State.writeEffect, State.setCrIf, State.setCr], by simp [writeError]⟩

/-- DevWrite when the coming answer is a success. -/
theorem devWrite_ok (h : Handle) (i : Fin 9) (w : Word) (s : State) (rest : List WriteAnswer)
    (hq : s.writeAnswers = .ok :: rest) :
    devWrite h i w s = (none, { s with cr := s.cr.set i w, writeAnswers := rest
                                       calls := s.calls ++ [.write h i w] }) := by
  simp [devWrite, State.nextWriteAnswer, hq, State.dropWriteAnswer, State.record, State.writeEffect, State.setCr, writeError]

/-- DevWrite when the coming answer is a failure. -/
theorem devWrite_failed (h : Handle) (i : Fin 9) (w : Word) (s : State) (timedOut landed : Bool)
    (rest : List WriteAnswer) (hq : s.writeAnswers = failedWrite timedOut landed :: rest) :
    devWrite h i w s = (some (accessError timedOut),
      { s with cr := if landed then s.cr.set i w else s.cr, writeAnswers := rest
               calls := s.calls ++ [.write h i w] }) := by
  cases timedOut <;> cases landed <;>
    simp_all [devWrite, State.nextWriteAnswer, State.dropWriteAnswer, State.record, State.writeEffect, State.setCr,
      State.setCrIf, failedWrite, accessError, writeError]

/-- Writing the registers of a list: a first part of the writes is issued in order; the registers outside the list
keep their values; without an error every write of the list has landed. -/
theorem writeAll_spec (h : Handle) (cw : ControlWordSet) (order : List (Fin 9)) (s : State) :
    ∃ n ≤ order.length,
      (writeAll h cw order s).2 =
        { s with cr := (writeAll h cw order s).2.cr, writeAnswers := s.writeAnswers.drop n
                 draws := (writeAll h cw order s).2.draws
                 calls := s.calls ++ (order.take n).map fun i => .write h i cw[i] } ∧
      (∀ j, j ∉ order → (writeAll h cw order s).2.cr[j] = s.cr[j]) ∧
      ((writeAll h cw order s).1 = none ∧ n = order.length ∧ (∀ j ∈ order, (writeAll h cw order s).2.cr[j] = cw[j]) ∨
        (writeAll h cw order s).1 = some .transportError ∨ (writeAll h cw order s).1 = some .transportTimeout) := by
  induction order generalizing s with
  | nil => exact ⟨0, by simp, by simp [writeAll], by simp [writeAll], by simp [writeAll]⟩
  | cons i rest ih =>
    obtain ⟨landed, hs1, hr⟩ := devWrite_spec h i cw[i] s
    have hother : ∀ j : Fin 9, j ≠ i → (devWrite h i cw[i] s).2.cr[j] = s.cr[j] := by
      intro j hj
      rw [hs1]
      cases landed
      · rfl
      · have : (i : Nat) ≠ j := fun e => hj (Fin.ext e.symm)
        simp [this]
    rcases hd : devWrite h i cw[i] s with ⟨e, s1⟩
    rw [hd] at hs1 hr hother
    simp only [] at hs1 hr hother
    cases e with
    | some e =>
      refine ⟨1, by simp, ?_, ?_, ?_⟩
      · simp only [writeAll, hd]
        rw [hs1]
        simp
      · intro j hj
        simp only [writeAll, hd]
        exact hother j (by simp at hj; exact hj.1)
      · simp only [writeAll, hd]
        exact .inr (hr.resolve_left (by simp))
    | none =>
      have hl : landed = true := by simpa using hr
      obtain ⟨n, hn, h2, hout, h1⟩ := ih s1
      refine ⟨n + 1, by simp; omega, ?_, ?_, ?_⟩
      · simp only [writeAll, hd]
        rw [h2, hs1]
        simp [List.take_succ_cons, List.drop_tail]
      · intro j hj
        simp only [writeAll, hd]
        simp at hj
        rw [hout j hj.2, hother j hj.1]
      · simp only [writeAll, hd]
        rcases h1 with ⟨h1, hlen, hin⟩ | h1
        · refine .inl ⟨h1, by simp [hlen], ?_⟩
          intro j hj
          by_cases hjr : j ∈ rest
          · exact hin j hjr
          · have hji : j = i := by simp at hj; exact hj.resolve_right hjr
            rw [hout j hjr, hs1, hl, hji]
            simp
        · exact .inr h1

/-- DevRead returns `MR[j]` of the device as it then stands, changes no control register, uses one answer, issues one
call. -/
theorem devRead_spec (h : Handle) (j : Fin 4) (s : State) :
    (devRead h j s).2 =
      { s with mr := (devRead h j s).2.mr, readAnswers := s.readAnswers.tail, draws := (devRead h j s).2.draws
               calls := s.calls ++ [.read h j] } ∧
    ((devRead h j s).1 = .ok (devRead h j s).2.mr[j] ∨
      ((devRead h j s).1 = .error .transportError ∨ (devRead h j s).1 = .error .transportTimeout) ∧
        (devRead h j s).2.mr = s.mr) := by
  unfold devRead
  cases hq : s.readAnswers with
  | nil =>
    generalize hn : s.nextReadAnswer = a
    cases a <;> simp [State.dropReadAnswer, hq, State.record, State.deviceShows]
  | cons b rest =>
    have hn : s.nextReadAnswer = b := by simp [State.nextReadAnswer, hq]
    rw [hn]
    cases b <;> simp [State.dropReadAnswer, hq, State.record, State.deviceShows]

/-- DevRead when the coming answer is a success. -/
theorem devRead_ok (h : Handle) (j : Fin 4) (s : State) (m : Vector Word 4) (rest : List ReadAnswer)
    (hq : s.readAnswers = .ok m :: rest) :
    devRead h j s = (.ok m[j], { s with mr := m, readAnswers := rest, calls := s.calls ++ [.read h j] }) := by
  simp [devRead, State.nextReadAnswer, hq, State.dropReadAnswer, State.record, State.deviceShows]

/-- DevRead when the coming answer is a failure. -/
theorem devRead_failed (h : Handle) (j : Fin 4) (s : State) (timedOut : Bool) (rest : List ReadAnswer)
    (hq : s.readAnswers = failedRead timedOut :: rest) :
    devRead h j s = (.error (accessError timedOut), { s with readAnswers := rest, calls := s.calls ++ [.read h j] }) := by
  cases timedOut <;>
    simp_all [devRead, State.nextReadAnswer, State.dropReadAnswer, State.record, failedRead, accessError]

/-- Reading the registers of a list: a first part of the reads is issued in order; only MR, the device's own, moves. -/
theorem readAll_spec (h : Handle) (order : List (Fin 4)) (raw : RawWords) (s : State) :
    ∃ n ≤ order.length,
      (readAll h order raw s).2 =
        { s with mr := (readAll h order raw s).2.mr, readAnswers := s.readAnswers.drop n
                 draws := (readAll h order raw s).2.draws
                 calls := s.calls ++ (order.take n).map fun j => .read h j } ∧
      ((∃ raw', (readAll h order raw s).1 = .ok raw') ∧ n = order.length ∨
        (readAll h order raw s).1 = .error .transportError ∨
        (readAll h order raw s).1 = .error .transportTimeout) := by
  induction order generalizing raw s with
  | nil => exact ⟨0, by simp, by simp [readAll], by simp [readAll]⟩
  | cons j rest ih =>
    obtain ⟨hs1, hr⟩ := devRead_spec h j s
    rcases hd : devRead h j s with ⟨e, s1⟩
    rw [hd] at hs1 hr
    simp only [] at hs1 hr
    cases e with
    | error e =>
      refine ⟨1, by simp, ?_, ?_⟩
      · simp only [readAll, hd]
        rw [hs1]
        simp
      · simp only [readAll, hd]
        rcases hr with hr | ⟨hr, -⟩
        · cases hr
        · exact .inr (hr.imp (by simp) (by simp))
    | ok w =>
      obtain ⟨n, hn, h2, h1⟩ := ih (raw.set j w) s1
      refine ⟨n + 1, by simp; omega, ?_, ?_⟩
      · simp only [readAll, hd]
        rw [h2, hs1]
        simp [List.take_succ_cons, List.drop_tail]
      · simp only [readAll, hd]
        rcases h1 with ⟨h1, hlen⟩ | h1
        · exact .inl ⟨h1, by simp [hlen]⟩
        · exact .inr h1

/-- TDeploy uses one answer, issues one call, and leaves on the device what came with the answer, whichever it is. -/
theorem tDeploy_spec (slot : Nat) (bitstream : List Byte) (policy : Nat) (s : State) :
    (tDeploy slot bitstream policy s).2 =
      { s with cr := (tDeploy slot bitstream policy s).1.device.cr, mr := (tDeploy slot bitstream policy s).1.device.mr
               deployAnswers := s.deployAnswers.tail, draws := (tDeploy slot bitstream policy s).2.draws
               calls := s.calls ++ [.deploy slot bitstream policy] } := by
  unfold tDeploy
  cases hq : s.deployAnswers <;> simp [State.dropDeployAnswer, hq, State.record, State.deviceHolds]

/-- TDeploy when the coming answer is known. -/
theorem tDeploy_eq (slot : Nat) (bitstream : List Byte) (policy : Nat) (s : State) (a : DeployAnswer)
    (rest : List DeployAnswer) (hq : s.deployAnswers = a :: rest) :
    tDeploy slot bitstream policy s =
      (a, { s with cr := a.device.cr, mr := a.device.mr, deployAnswers := rest
                   calls := s.calls ++ [.deploy slot bitstream policy] }) := by
  simp [tDeploy, State.nextDeployAnswer, hq, State.dropDeployAnswer, State.record, State.deviceHolds]

/-- TRelease uses one answer, issues one call, and leaves on the device what came with the answer. -/
theorem tRelease_spec (h : Handle) (s : State) :
    (tRelease h s).2 =
      { s with cr := (tRelease h s).1.device.cr, mr := (tRelease h s).1.device.mr
               releaseAnswers := s.releaseAnswers.tail, draws := (tRelease h s).2.draws
               calls := s.calls ++ [.release h] } := by
  unfold tRelease
  cases hq : s.releaseAnswers <;> simp [State.dropReleaseAnswer, hq, State.record, State.deviceHolds]

/-- TRelease when the coming answer is known. -/
theorem tRelease_eq (h : Handle) (s : State) (a : ReleaseAnswer) (rest : List ReleaseAnswer)
    (hq : s.releaseAnswers = a :: rest) :
    tRelease h s =
      (a, { s with cr := a.device.cr, mr := a.device.mr, releaseAnswers := rest
                   calls := s.calls ++ [.release h] }) := by
  simp [tRelease, State.nextReleaseAnswer, hq, State.dropReleaseAnswer, State.record, State.deviceHolds]

/-- A pure operation ends having changed nothing but the port. -/
theorem pureAnswer_eq (s : State) (r : Result) : s.pureAnswer r = onlyReplied s (.ok r) := rfl

/-- An operation that fails before its first access has changed nothing but the port. -/
theorem begin_fail_eq (s : State) (e : OpError) : s.begin.fail e = onlyReplied s (.err e) := rfl

end Sys2Proof.Machine
end

