-- ==== Sys2Proof/Laws/PerInstr.lean ====
section
/-! SUPPORT. Family Assigned: the request of every operation has a selector of table S (30_encoding.md R80). -/

namespace Sys2Proof.Laws.Assigned

/-- The operation's selector is one of table S, and its own operands are of the shape the decoder reads there. -/
def Statement (i : Instr) : Prop :=
  (operandReader (encode i).sel).isSome = true ∧ (zeroOperands (encode i).sel).length = (encode i).operands.length

theorem venc (v : Volt) : Statement (.venc v) := ⟨rfl, rfl⟩
theorem vdec (c : Code) : Statement (.vdec c) := ⟨rfl, rfl⟩
theorem pack0 (e : Bool) (d : Nat) : Statement (.pack0 e d) := ⟨rfl, rfl⟩
theorem packd (d : Nat) : Statement (.packd d) := ⟨rfl, rfl⟩
theorem packv (c : Code) : Statement (.packv c) := ⟨rfl, rfl⟩
theorem cbuild (cfg : SequencerConfig) : Statement (.cbuild cfg) := ⟨rfl, rfl⟩
theorem w0en (w : Word) : Statement (.w0en w) := ⟨rfl, rfl⟩
theorem w0dis (w : Word) : Statement (.w0dis w) := ⟨rfl, rfl⟩
theorem xdac (w : Word) : Statement (.xdac w) := ⟨rfl, rfl⟩
theorem xsticky (w : Word) : Statement (.xsticky w) := ⟨rfl, rfl⟩
theorem xstate (w : Word) : Statement (.xstate w) := ⟨rfl, rfl⟩
theorem xdiv (w : Word) : Statement (.xdiv w) := ⟨rfl, rfl⟩
theorem sdec (raw : RawWords) : Statement (.sdec raw) := ⟨rfl, rfl⟩
theorem ohenc (s : Nat) : Statement (.ohenc s) := ⟨rfl, rfl⟩
theorem deploy (slot : Nat) (b : List Byte) (p : Nat) : Statement (.deploy slot b p) := ⟨rfl, rfl⟩
theorem configure (cfg : SequencerConfig) : Statement (.configure cfg) := ⟨rfl, rfl⟩
theorem enable : Statement (.enable) := ⟨rfl, rfl⟩
theorem disable : Statement (.disable) := ⟨rfl, rfl⟩
theorem status : Statement (.status) := ⟨rfl, rfl⟩
theorem release : Statement (.release) := ⟨rfl, rfl⟩

end Sys2Proof.Laws.Assigned
end

