-- ==== Sys2Proof/Tests/Slice0.lean ====
section
/-! SUPPORT. The model's own tests: what the syntax check and the decoder refuse, the words of table S written out from
30_encoding.md R80, the vectors of 95_test_vectors.md by their ids, and for every obligation with hypotheses a concrete
state and operands that meet them. -/

namespace Sys2Proof.Tests

open Sys2Proof Sys2Proof.Machine

/-! ### Helpers -/

/-- The state after a step that answers next. -/
def nextOf : Host.Outcome State Fault Refusal → Option State
  | .next t => some t
  | .fault _ => none
  | .refused _ => none

/-- The refusal a step ended in. -/
def refusalIn : Host.Outcome State Fault Refusal → Option Refusal
  | .next _ => none
  | .fault _ => none
  | .refused r => some r

/-- The outcome an operation returns from the reset state. -/
def replyAtReset (i : Instr) : Option Reply := (nextOf (exec i State.reset)).bind State.reply

/-- cfgA of 95_test_vectors.md section 2.4. -/
def cfgA : SequencerConfig :=
  { delay := #v[10, 20, 30, 40], volt := #v[11/10, 12/10, 13/10, 14/10], enable := false, div := 0 }

/-- cfgB of 95_test_vectors.md section 2.4. -/
def cfgB : SequencerConfig :=
  { delay := #v[0, 127, 1, 64], volt := #v[5, -5, 0, -5/2], enable := true, div := 90 }

/-- Every field at a bound of its range (K33, K34). -/
def cfgBounds : SequencerConfig :=
  { delay := #v[127, 0, 127, 0], volt := #v[5, -5, 5, -5], enable := false, div := 255 }

/-- The handle of these tests. -/
def h1 : Handle := ⟨1⟩

/-- The words of K22. -/
def wordsA : ControlWordSet :=
  #v[0x80000000, 0x0000000A, 0x00000014, 0x0000001E, 0x00000028, 0x00001C29, 0x00001EB8, 0x00002147, 0x000023D7]

/-- A device with the words of K22 in its control registers. -/
def devA : DeviceRegs := { cr := wordsA, mr := #v[1, 2, 3, 4] }

/-- A state in Deployed. -/
def deployedState : State := { State.reset with ss := .deployed, handle := some h1 }

/-- A state in Configured with cfgA, its word 0 on the device. -/
def configuredState : State :=
  { State.reset with ss := .configured, handle := some h1, cfgLast := some cfgA, w0c := 0x80000000, cr := wordsA }

/-- Deployed, with the transport's answers to a whole CONFIGURE. -/
def readyState : State := { deployedState with writeAnswers := List.replicate 9 .ok }

/-! ### WellFormed: one ill-formed term for each check -/

/-- PACK0's divider ends at 255. -/
theorem test_wf_pack0 : Instr.wf (.pack0 true 255) = true ∧ Instr.wf (.pack0 true 256) = false := by decide

/-- PACKD's delay ends at 127. -/
theorem test_wf_packd : Instr.wf (.packd 127) = true ∧ Instr.wf (.packd 128) = false := by decide

/-- OHENC's state ends at 4. -/
theorem test_wf_ohenc : Instr.wf (.ohenc 4) = true ∧ Instr.wf (.ohenc 5) = false := by decide

/-- The decoder refuses an integer outside the range of its operand, on both sides, by name. -/
theorem test_decode_refuses_out_of_range :
    decode ⟨0b01000, [.bool true, .int 256]⟩ = .error .operandsNotPresentable ∧
    decode ⟨0b01000, [.bool true, .int (-1)]⟩ = .error .operandsNotPresentable ∧
    decode ⟨0b01001, [.int 128]⟩ = .error .operandsNotPresentable ∧
    decode ⟨0b01001, [.int (-1)]⟩ = .error .operandsNotPresentable ∧
    decode ⟨0b10101, [.int 5]⟩ = .error .operandsNotPresentable ∧
    decode ⟨0b10101, [.int (-1)]⟩ = .error .operandsNotPresentable := ⟨rfl, rfl, rfl, rfl, rfl, rfl⟩

/-- The decoder refuses operands of another shape, and a selector outside table S. -/
theorem test_decode_refuses_other_shapes :
    decode ⟨0b11010, [.int 0]⟩ = .error .operandsNotPresentable ∧
    decode ⟨0b01011, [.word 0]⟩ = .error .operandsNotPresentable ∧
    decode ⟨0b00010, []⟩ = .error .unassignedSelector ∧
    decode ⟨0b11111, []⟩ = .error .unassignedSelector := ⟨rfl, rfl, rfl, rfl⟩

/-! ### Decoding: the words of table S -/

/-- Unit 00, the voltage codec. -/
theorem test_word_codec :
    decodeTableWord 8 0b00000 = some (.venc 0) ∧ decodeTableWord 8 0b00001 = some (.vdec 0) := ⟨rfl, rfl⟩

/-- Unit 01, the control packer. -/
theorem test_word_packer :
    decodeTableWord 8 0b01000 = some (.pack0 false 0) ∧ decodeTableWord 8 0b01001 = some (.packd 0) ∧
    decodeTableWord 8 0b01010 = some (.packv 0) ∧ decodeTableWord 8 0b01011 = some (.cbuild zeroConfig) ∧
    decodeTableWord 8 0b01100 = some (.w0en 0) ∧ decodeTableWord 8 0b01101 = some (.w0dis 0) :=
  ⟨rfl, rfl, rfl, rfl, rfl, rfl⟩

/-- Unit 10, the status decoder. -/
theorem test_word_decoder :
    decodeTableWord 8 0b10000 = some (.xdac 0) ∧ decodeTableWord 8 0b10001 = some (.xsticky 0) ∧
    decodeTableWord 8 0b10010 = some (.xstate 0) ∧ decodeTableWord 8 0b10011 = some (.xdiv 0) ∧
    decodeTableWord 8 0b10100 = some (.sdec #v[0, 0, 0, 0]) ∧ decodeTableWord 8 0b10101 = some (.ohenc 0) :=
  ⟨rfl, rfl, rfl, rfl, rfl, rfl⟩

/-- Unit 11, the session. -/
theorem test_word_session :
    decodeTableWord 8 0b11000 = some (.deploy 0 [] 0) ∧ decodeTableWord 8 0b11001 = some (.configure zeroConfig) ∧
    decodeTableWord 8 0b11010 = some .enable ∧ decodeTableWord 8 0b11011 = some .disable ∧
    decodeTableWord 8 0b11100 = some .status ∧ decodeTableWord 8 0b11101 = some .release :=
  ⟨rfl, rfl, rfl, rfl, rfl, rfl⟩

/-- The twelve selectors of R97. -/
theorem test_word_unassigned :
    ∀ w ∈ [0b00010, 0b00011, 0b00100, 0b00101, 0b00110, 0b00111, 0b01110, 0b01111, 0b10110, 0b10111, 0b11110, 0b11111],
      decodeTableWord 8 w = none := by decide

/-- Requests with operands, each in its place: PACK0's flag and divider, DEPLOY's slot, bitstream and policy. -/
theorem test_decode_operands :
    decode ⟨0b01000, [.bool true, .int 90]⟩ = .ok (.pack0 true 90) ∧
    decode ⟨0b00001, [.code 0x1C29]⟩ = .ok (.vdec 0x1C29) ∧
    decode ⟨0b10101, [.int 3]⟩ = .ok (.ohenc 3) ∧
    decode ⟨0b11000, [.token 2, .bytes [0xAB], .token 7]⟩ = .ok (.deploy 2 [0xAB] 7) := ⟨rfl, rfl, rfl, rfl⟩

/-- Every word of table S runs as the first operation after reset. -/
theorem test_table_words_run_after_reset :
    ∀ w ∈ [0b00000, 0b00001, 0b01000, 0b01001, 0b01010, 0b01011, 0b01100, 0b01101, 0b10000, 0b10001, 0b10010, 0b10011,
           0b10100, 0b10101, 0b11000, 0b11001, 0b11010, 0b11011, 0b11100, 0b11101],
      (nextOf (step (State.reset.withFetchWord 8 w))).isSome = true := by decide +kernel

/-- Q21: a request with an unassigned selector is refused. -/
theorem test_unassigned_is_refused :
    refusalIn (step { State.reset with pending := [⟨0b00010, []⟩] }) = some (.unassignedSelector 0b00010) := rfl

/-! ### The voltage codec, sections 2.1 to 2.3 -/

/-- E5, E10, E11, E16, and the bounds E28 to E30. -/
theorem test_venc :
    replyAtReset (.venc (11/10)) = some (.ok (.code 0x1C29)) ∧
    replyAtReset (.venc (33/10)) = some (.ok (.code 0x547A)) ∧
    replyAtReset (.venc (-33/10)) = some (.ok (.code 0xAB85)) ∧
    replyAtReset (.venc (-1/10000)) = some (.ok (.code 0xFFFF)) ∧
    replyAtReset (.venc (51/10)) = some (.err (.rangeError (51/10))) ∧
    replyAtReset (.venc (50001/10000)) = some (.err (.rangeError (50001/10000))) ∧
    replyAtReset (.venc (-50001/10000)) = some (.err (.rangeError (-50001/10000))) := by decide +kernel

/-- The ties E14, E18 to E22 under both tie rules, and A1, A3 under the other scale. -/
theorem test_venc_parameters :
    [5/2, 5/65534, -5/65536, -15/65536, -25/65536, -327675/65536].map (encodeCode params) =
      [0x4000, 0x0000, 0x0000, 0xFFFE, 0xFFFE, 0x8000] ∧
    [5/2, 5/65534, -5/65536, -15/65536, -25/65536, -327675/65536].map (encodeCode { params with roundTies := .away }) =
      [0x4000, 0x0001, 0xFFFF, 0xFFFE, 0xFFFD, 0x8000] ∧
    [-5, -33/10, -15/65536].map (encodeCode { params with encNegScale := 32767 }) = [0x8001, 0xAB86, 0xFFFF] := by
  decide +kernel

/-- F5, F10, F12 to F14, F20. -/
theorem test_vdec :
    replyAtReset (.vdec 0x1C29) = some (.ok (.volt (36045/32767))) ∧
    replyAtReset (.vdec 0x4000) = some (.ok (.volt (81920/32767))) ∧
    replyAtReset (.vdec 0x7FFF) = some (.ok (.volt 5)) ∧
    replyAtReset (.vdec 0x8000) = some (.ok (.volt (-5))) ∧
    replyAtReset (.vdec 0x8001) = some (.ok (.volt (-163835/32768))) ∧
    replyAtReset (.vdec 0xFFFE) = some (.ok (.volt (-5/16384))) := by decide +kernel

/-! ### The control packer, section 2.4 -/

/-- K2, K4, K5. -/
theorem test_pack0 :
    pack0 true 0 = 0x00000000 ∧ pack0 false 90 = 0x8000005A ∧ pack0 false 255 = 0x800000FF := by decide

/-- K7, K9, K10. -/
theorem test_packd : packd 0 = 0x00000000 ∧ packd 40 = 0x00000028 ∧ packd 127 = 0x0000007F := by decide

/-- K11 to K13: never sign-extended. -/
theorem test_packv :
    packv 0x1C29 = 0x00001C29 ∧ packv 0x8000 = 0x00008000 ∧ packv 0xFFFF = 0x0000FFFF := by decide

/-- K15, K19, K17, K20 through the operations. -/
theorem test_w0en_w0dis :
    replyAtReset (.w0en 0x8000005A) = some (.ok (.word 0x0000005A)) ∧
    replyAtReset (.w0en 0xFFFFFFFF) = some (.ok (.word 0x7FFFFFFF)) ∧
    replyAtReset (.w0dis 0x0000005A) = some (.ok (.word 0x8000005A)) ∧
    replyAtReset (.w0dis 0x00000000) = some (.ok (.word 0x80000000)) := by decide

/-- K22 and K23. -/
theorem test_cbuild :
    replyAtReset (.cbuild cfgA) = some (.ok (.wordSet wordsA)) ∧
    replyAtReset (.cbuild cfgB) = some (.ok (.wordSet
      #v[0x0000005A, 0x00000000, 0x0000007F, 0x00000001, 0x00000040, 0x00007FFF, 0x00008000, 0x00000000,
         0x0000C000])) := by decide +kernel

/-- K25 to K32. -/
theorem test_validation_order :
    firstViolated params { cfgA with delay := #v[10, 20, 30, 128] } = some (.delay 3) ∧
    firstViolated params { cfgA with delay := #v[-1, 20, 30, 40] } = some (.delay 0) ∧
    firstViolated params { cfgA with delay := #v[10, 200, 300, 40] } = some (.delay 1) ∧
    firstViolated params { cfgA with delay := #v[10, 20, 30, 128], volt := #v[11/10, 51/10, 13/10, 14/10], div := 256 } =
      some (.delay 3) ∧
    firstViolated params { cfgA with volt := #v[11/10, 51/10, 13/10, 14/10], div := 256 } = some (.volt 1) ∧
    firstViolated params { cfgA with volt := #v[-50001/10000, 12/10, 13/10, 7] } = some (.volt 0) ∧
    firstViolated params { cfgA with div := 256 } = some .div ∧
    firstViolated params { cfgA with div := -1 } = some .div := by decide +kernel

/-! ### The status decoder, section 2.5 -/

/-- M3 to M7. -/
theorem test_xdac :
    [0xFFFF7FFF, 0x00008000, 0x80000000, 0xFFFFFFFF, 0x1234C000].map xdac = [5, -5, 0, -5/32768, -5/2] := by
  decide +kernel

/-- M9 to M11, M13 to M15. -/
theorem test_xsticky_xdiv :
    [0x0000000F, 0xDEADBEE5, 0xFFFFFFF0].map xsticky = [0b1111, 0b0101, 0b0000] ∧
    [0x000000FF, 0x00000100, 0x123456A7].map xdiv = [0xFF, 0x00, 0xA7] := by decide

/-- The table of R193 and M16, M17. -/
theorem test_xstate :
    [0x0, 0x1, 0x2, 0x3, 0x4, 0x5, 0x6, 0x7, 0x8, 0x9, 0xA, 0xB, 0xC, 0xD, 0xE, 0xF, 0xFFFFFFF0, 0x00000010].map xstate =
      [0, 1, 2, 1, 3, 1, 2, 1, 4, 1, 2, 1, 3, 1, 2, 1, 0, 0] := by decide

/-- M22. -/
theorem test_sdec :
    replyAtReset (.sdec #v[0xFFFF2147, 0x00000007, 0x00000006, 0x000001FF]) = some (.ok (.snapshot
      { dacVoltage := 42595/32767, sticky := 0b0111, currentState := 2, divCounter := 0xFF
        raw := #v[0xFFFF2147, 0x00000007, 0x00000006, 0x000001FF] })) := by decide +kernel

/-- R198's five codes. -/
theorem test_ohenc : [0, 1, 2, 3, 4].map oneHot = [0b0000, 0b0001, 0b0010, 0b0100, 0b1000] := by decide

/-! ### Session operations, section 2.6 -/

/-- Q1 to Q4. -/
theorem test_deploy :
    nextOf (exec (.deploy 0 [] 0) { State.reset with deployAnswers := [.ok h1 devA] }) =
      some { deployedState with cr := wordsA, mr := devA.mr, reply := some (.ok .nothing), calls := [.deploy 0 [] 0] } ∧
    nextOf (exec (.deploy 0 [] 0) { State.reset with deployAnswers := [.fail devA] }) =
      some { State.reset with cr := wordsA, mr := devA.mr, reply := some (.err .deploymentError), calls := [.deploy 0 [] 0] } ∧
    nextOf (exec (.deploy 0 [] 0) { State.reset with deployAnswers := [.tout devA] }) =
      some { State.reset with cr := wordsA, mr := devA.mr, reply := some (.err .transportTimeout), calls := [.deploy 0 [] 0] } ∧
    refusalIn (exec (.deploy 0 [] 0) deployedState) = some .deployNotUnbound := by decide +kernel

/-- Q5, the successful CONFIGURE of R222's worked example. -/
theorem test_configure_ok :
    (nextOf (exec (.configure cfgA) readyState)).map (fun t => (t.ss, t.cfgLast, t.cr)) =
      some (.configured, some cfgA, wordsA) ∧
    (nextOf (exec (.configure cfgA) readyState)).map (fun t => (t.w0c, writesOf t)) =
      some (0x80000000,
        [(0, 0x80000000), (1, 0x0000000A), (2, 0x00000014), (3, 0x0000001E), (4, 0x00000028), (5, 0x00001C29),
         (6, 0x00001EB8), (7, 0x00002147), (8, 0x000023D7)]) := by decide +kernel

/-- Q7 (the last write times out and has landed), Q8 and Q9. -/
theorem test_configure_fails :
    (nextOf (exec (.configure cfgA) { deployedState with writeAnswers := List.replicate 8 .ok ++ [.tout true] })).map
        (fun t => (t.ss, t.cfgLast, t.cr, t.reply)) =
      some (.deployed, none, wordsA, some (.err .transportTimeout)) ∧
    (nextOf (exec (.configure { cfgA with delay := #v[10, 20, 30, 128] }) deployedState)).map
        (fun t => (t.reply, t.calls)) = some (some (.err (.validationError (.delay 3))), []) ∧
    (nextOf (exec (.configure { cfgA with delay := #v[10, 20, 30, 128] }) State.reset)).map
        (fun t => (t.reply, t.calls)) = some (some (.err (.notReady .unbound)), []) := by decide +kernel

/-- Q10, Q11 and S31. -/
theorem test_enable_disable :
    (nextOf (exec .enable { configuredState with writeAnswers := [.ok] })).map (fun t => (t.w0c, t.cr[0], writesOf t)) =
      some (0x00000000, 0x00000000, [(0, 0x00000000)]) ∧
    (nextOf (exec .enable { configuredState with writeAnswers := [.tout true] })).map (fun t => (t.w0c, t.cr[0], t.reply)) =
      some (0x80000000, 0x00000000, some (.err .transportTimeout)) ∧
    (nextOf (exec .disable deployedState)).map (fun t => (t.reply, t.calls)) =
      some (some (.err (.notReady .deployed)), []) := by decide +kernel

/-- Q12: DISABLE keeps the divider. -/
theorem test_disable_keeps_divider :
    (nextOf (exec .disable { configuredState with w0c := 0x0000005A, cfgLast := some cfgB, writeAnswers := [.ok] })).map
        (fun t => (t.w0c, t.cfgLast, writesOf t)) =
      some (0x8000005A, some cfgB, [(0, 0x8000005A)]) := by decide +kernel

/-- The device's monitor registers with one word in place j. -/
def showing (j : Fin 4) (w : Word) : Vector Word 4 := (#v[0, 0, 0, 0]).set j w

/-- Q15 and Q16. -/
theorem test_status :
    (nextOf (exec .status { configuredState with
        readAnswers := [.ok (showing 0 0x1C29), .ok (showing 1 1), .ok (showing 2 1), .ok (showing 3 7)] })).map
        (fun t => t.reply) =
      some (some (.ok (.snapshot { dacVoltage := 36045/32767, sticky := 0b0001, currentState := 1, divCounter := 0x07
                                   raw := #v[0x1C29, 1, 1, 7] }))) ∧
    (nextOf (exec .status { deployedState with readAnswers := [.ok (showing 0 0), .terr] })).map
        (fun t => (t.reply, readsOf t)) =
      some (some (.err .transportError), [0, 1]) := by decide +kernel

/-- Q17, Q19 and Q20. -/
theorem test_status_release_unbound :
    replyAtReset .status = some (.ok .disconnected) ∧ replyAtReset .release = some (.ok (.relinquished true)) ∧
    (nextOf (exec .release { deployedState with releaseAnswers := [.fail devA] })).map
        (fun t => (t.ss, t.handle, t.cr)) = some (.unbound, none, wordsA) ∧
    (nextOf (exec .release { configuredState with releaseAnswers := [.fail devA] })).map
        (fun t => (t.cfgLast, t.reply)) = some (none, some (.ok (.relinquished false))) := by decide +kernel

/-! ### Witnesses: for every obligation with hypotheses, a state and operands that meet them -/

/-- The Boolean check of a config, in the terms of the statements. -/
theorem configValid_iff (cfg : SequencerConfig) (h : validConfig cfg = true) : ConfigValid cfg := by
  intro f
  have hf : fieldOk cfg f = true := by
    have hmem : f ∈ allFields := by
      cases f with
      | delay k => revert k; decide
      | volt k => revert k; decide
      | div => decide
    exact List.all_eq_true.mp h f hmem
  cases f <;> simpa [fieldOk, inDelayRange, inVoltRange, inDivRange, FieldInRange] using hf

/-- A config with every field at a bound is valid. -/
theorem cfgBounds_valid : ConfigValid cfgBounds := configValid_iff _ (by decide +kernel)

theorem cfgA_valid : ConfigValid cfgA := configValid_iff _ (by decide +kernel)

/-- A config whose last checked field, the divider, is the only violated one. -/
def cfgBadDiv : SequencerConfig := { cfgBounds with div := 256 }

theorem cfgBadDiv_first : FirstViolated cfgBadDiv .div := by
  refine ⟨by simp [FieldInRange, cfgBadDiv], allFields.take 8, [], rfl, ?_⟩
  intro g hg
  have h := cfgBounds_valid g
  cases g with
  | div => exact absurd hg (by decide)
  | delay k => exact h
  | volt k => exact h

/-- A config whose first checked field is violated. -/
theorem cfgBadDelay_first : FirstViolated { cfgA with delay := #v[-1, 20, 30, 40] } (.delay 0) :=
  ⟨by simp [FieldInRange], [], allFields.drop 1, rfl, by simp⟩

/-- The invariant in Configured. -/
theorem configuredState_inv : BlockInv configuredState where
  handlePresent := by decide
  cfgPresent := by decide
  w0cBits := by decide
  w0cDiv := by
    intro _ cfg h
    cases h
    decide
  cfgValid := by
    intro cfg h
    cases h
    decide +kernel

theorem deployedState_inv : BlockInv deployedState where
  handlePresent := by decide
  cfgPresent := by decide
  w0cBits := by decide
  w0cDiv := by intro h; cases h
  cfgValid := by intro cfg h; cases h

theorem reset_inv : BlockInv State.reset where
  handlePresent := by decide
  cfgPresent := by decide
  w0cBits := by decide
  w0cDiv := by intro h; cases h
  cfgValid := by intro cfg h; cases h

/-- The invariant does not look at the inputs, the requests or the device. -/
theorem inv_of_same_block {s t : State} (h : BlockInv s)
    (hb : t.ss = s.ss ∧ t.handle = s.handle ∧ t.cfgLast = s.cfgLast ∧ t.w0c = s.w0c) : BlockInv t := by
  obtain ⟨h1, h2, h3, h4⟩ := hb
  constructor <;> simp only [h1, h2, h3, h4]
  exacts [h.handlePresent, h.cfgPresent, h.w0cBits, h.w0cDiv, h.cfgValid]

/-- Configured, with answers for every primitive. -/
def answeringState (w : WriteAnswer) : State :=
  { configuredState with writeAnswers := [w], readAnswers := [.ok (showing 0 0x1C29), .terr], releaseAnswers := [.ok devA] }

theorem answeringState_inv (w : WriteAnswer) : BlockInv (answeringState w) :=
  inv_of_same_block configuredState_inv ⟨rfl, rfl, rfl, rfl⟩

theorem next_of_isSome {o : Host.Outcome State Fault Refusal} (h : (nextOf o).isSome = true) : ∃ t, o = .next t := by
  cases o with
  | next t => exact ⟨t, rfl⟩
  | fault f => cases h
  | refused r => cases h

theorem witness_DecodeOfEncodeIsIdentity :
    (Instr.pack0 true 255).WellFormed ∧ (Instr.packd 127).WellFormed ∧ (Instr.ohenc 4).WellFormed ∧
    (Instr.ohenc 0).WellFormed ∧ (Instr.venc (-5)).WellFormed := ⟨rfl, rfl, rfl, rfl, rfl⟩

theorem witness_EncodeOfDecodeIsIdentity :
    decode ⟨0b01000, [.bool false, .int 255]⟩ = .ok (.pack0 false 255) ∧
    decode ⟨0b11101, []⟩ = .ok .release := ⟨rfl, rfl⟩

theorem witness_ExactlyTwelveSelectorsAreRefused :
    ({ State.reset with pending := [⟨0b00010, []⟩, ⟨0b11101, []⟩] } : State).pending = [⟨0b00010, []⟩, ⟨0b11101, []⟩] ∧
    ({ State.reset with pending := [⟨0b11101, []⟩] } : State).pending = [⟨0b11101, []⟩] := ⟨rfl, rfl⟩

theorem witness_StepRunsTheDecodedRequest :
    (({ configuredState with pending := [⟨0b11010, []⟩] } : State).pending = [⟨0b11010, []⟩] ∧
      decode ⟨0b11010, []⟩ = .ok .enable) ∧
    State.reset.pending = [] ∧ decodeTableWord 8 0b11101 = some .release := ⟨⟨rfl, rfl⟩, rfl, rfl⟩

theorem witness_ResetAndReleaseLeaveTheBlockUnbound :
    BlockInv (answeringState .ok) ∧ ∃ t, exec .release (answeringState .ok) = .next t :=
  ⟨answeringState_inv _, _, rfl⟩

/-- A step from Configured, by a request that fails half way. -/
theorem witness_EveryStepKeepsTheBlockInvariant :
    ∃ s t : State, BlockInv s ∧ s.ss = .configured ∧ step s = .next t ∧ t.w0c ≠ s.w0c :=
  ⟨{ answeringState .ok with pending := [⟨0b11010, []⟩] }, _,
    inv_of_same_block configuredState_inv ⟨rfl, rfl, rfl, rfl⟩, rfl, rfl, by decide⟩

/-- A run from reset to Configured: requests and answers are supplied, then two steps. -/
theorem witness_ReachableStatesMeetTheBlockInvariant : ∃ s, Reachable s ∧ s.ss = .configured := by
  let s0 : State := { State.reset with
    pending := [⟨0b11000, [.token 0, .bytes [], .token 0]⟩, ⟨0b11001, [.config cfgA]⟩]
    deployAnswers := [.ok h1 devA], writeAnswers := List.replicate 9 .ok }
  have h0 : Reachable s0 := Reachable.supply _ _ _ _ _ Reachable.reset
  let s1 : State := { s0 with
    ss := .deployed, handle := some h1, cr := wordsA, mr := devA.mr, pending := [⟨0b11001, [.config cfgA]⟩], deployAnswers := []
    reply := some (.ok .nothing), calls := [.deploy 0 [] 0] }
  have h1 : Reachable s1 := h0.step rfl
  have hn : (nextOf (step s1)).map (fun t => t.ss) = some .configured := by decide +kernel
  cases hs : step s1 with
  | next t =>
    rw [hs] at hn
    exact ⟨t, h1.step hs, by simpa [nextOf] using hn⟩
  | fault f => rw [hs] at hn; cases hn
  | refused r => rw [hs] at hn; cases hn

theorem witness_NoStepFaultsUnderTheBlockInvariant : BlockInv { answeringState .ok with pending := [⟨0b11010, []⟩] } :=
  inv_of_same_block configuredState_inv ⟨rfl, rfl, rfl, rfl⟩

/-- Both directions have an instance. -/
theorem witness_OnlyDeployOutsideUnboundIsRefused :
    exec (.deploy 0 [] 0) configuredState = .refused .deployNotUnbound ∧ configuredState.ss ≠ .unbound :=
  ⟨rfl, by decide⟩

theorem witness_FailedOperationsKeepTheBlockState :
    ∃ t, exec .enable (answeringState (.tout true)) = .next t ∧ Failed t := ⟨_, rfl, _, rfl⟩

theorem witness_PureOperationsReadAndWriteNoState :
    isPure (.venc 6) = true ∧ isPure (.cbuild cfgBadDiv) = true ∧ isPure (.ohenc 4) = true := ⟨rfl, rfl, rfl⟩

theorem witness_SessionStateMovesOnlyByTheTable :
    (∃ t, exec (.deploy 0 [] 0) { State.reset with deployAnswers := [.ok h1 devA] } = .next t ∧ t.ss ≠ .unbound) ∧
    (nextOf (exec (.configure cfgA) readyState)).map (fun t => decide (t.ss = readyState.ss)) = some false ∧
    (∃ t, exec .release (answeringState .ok) = .next t ∧ t.ss ≠ .configured) :=
  ⟨⟨_, rfl, by decide⟩, by decide +kernel, ⟨_, rfl, by decide⟩⟩

/-- One instance of the hypothesis for each session operation; each clause has an operation it excludes and one it
does not among them. -/
theorem witness_SessionOperationsChangeOnlyTheirTargets :
    (∃ t, exec (.deploy 0 [] 0) State.reset = .next t) ∧ (∃ t, exec (.configure cfgA) readyState = .next t) ∧
    (∃ t, exec .enable (answeringState .ok) = .next t) ∧ (∃ t, exec .disable (answeringState .ok) = .next t) ∧
    (∃ t, exec .status (answeringState .ok) = .next t) ∧ (∃ t, exec .release (answeringState .ok) = .next t) :=
  ⟨⟨_, rfl⟩, next_of_isSome (by decide +kernel), ⟨_, rfl⟩, ⟨_, rfl⟩, ⟨_, rfl⟩, ⟨_, rfl⟩⟩

theorem witness_OutcomesDoNotDependOnDeviceRegisters :
    (∃ t, exec .enable (answeringState .ok) = .next t) ∧ (∃ t, exec .status (answeringState .ok) = .next t) :=
  ⟨⟨_, rfl⟩, ⟨_, rfl⟩⟩

theorem witness_W0cIsNotReadOutsideConfigured :
    deployedState.ss ≠ .configured ∧ (∃ t, exec .enable deployedState = .next t) ∧
    (∃ t, exec (.configure cfgA) readyState = .next t) :=
  ⟨by decide, ⟨_, rfl⟩, next_of_isSome (by decide +kernel)⟩

/-- The three clauses about accesses, each with accesses there to speak of. -/
theorem witness_DeviceAccessesOfEachOperation :
    (∃ t, exec (.venc 5) State.reset = .next t) ∧ (∃ t, exec .enable State.reset = .next t) ∧
    (∃ t, exec .disable (answeringState .ok) = .next t) ∧
    (nextOf (exec (.configure cfgA) { deployedState with writeAnswers := [.ok, .ok, .terr false] })).map
      (fun t => (writesOf t).map Prod.fst) = some [0, 1, 2] ∧
    (nextOf (exec .status (answeringState .ok))).map readsOf = some [0, 1] :=
  ⟨next_of_isSome (by decide +kernel), ⟨_, rfl⟩, ⟨_, rfl⟩, by decide +kernel, by decide +kernel⟩

theorem witness_EveryWrittenWordHasItsSlotFormat :
    BlockInv (answeringState (.terr false)) ∧ ∃ t, exec .disable (answeringState (.terr false)) = .next t ∧
      (0, 0x80000000) ∈ writesOf t := ⟨answeringState_inv _, _, rfl, by decide⟩

theorem witness_RangeErrorOnlyFromVencNotFoundFromNone :
    (nextOf (exec (.venc 6) State.reset)).map (fun t => t.reply) = some (some (.err (.rangeError 6))) := by decide +kernel

theorem witness_SuccessfulWritesRestoreAgreement :
    (∃ t r, exec .enable (answeringState .ok) = .next t ∧ t.reply = some (.ok r)) ∧
    (nextOf (exec (.configure cfgA) readyState)).map (fun t => t.reply) = some (some (.ok .nothing)) :=
  ⟨⟨_, _, rfl, rfl⟩, by decide +kernel⟩

/-- Both bounds and both sides of zero. -/
theorem witness_VencResultInsideTheDomain :
    ((-5 : Volt) ≤ -5 ∧ (-5 : Volt) ≤ 5) ∧ ((-5 : Volt) ≤ 5 ∧ (5 : Volt) ≤ 5) ∧ ((-5 : Volt) ≤ 0 ∧ (0 : Volt) ≤ 5) := by
  decide +kernel

theorem witness_VencRangeErrorOutsideTheDomain :
    ((-50001/10000 : Volt) < -5 ∨ (5 : Volt) < -50001/10000) ∧ ((50001/10000 : Volt) < -5 ∨ (5 : Volt) < 50001/10000) := by
  decide +kernel

/-- Both half ranges, at the ties where the bound is reached. -/
theorem witness_VdecOfVencErrorBound :
    encodeCode params (5/2) = 0x4000 ∧ inVoltRange (5/2) = true ∧ (0 : Volt) ≤ 5/2 ∧
    encodeCode params (-5/65536) = 0x0000 ∧ inVoltRange (-5/65536) = true ∧ (-5/65536 : Volt) < 0 := by decide +kernel

theorem witness_CodecKeepsOrder :
    (0x8000 : Code).toInt < (0x7FFF : Code).toInt ∧ (-5 : Volt) ≤ 5 ∧
    encodeCode params (-5) = 0x8000 ∧ inVoltRange (-5) = true ∧ encodeCode params 5 = 0x7FFF ∧ inVoltRange 5 = true := by
  decide +kernel

theorem witness_WordPackerResults : (255 : Nat) ≤ 255 ∧ (127 : Nat) ≤ 127 := by decide

theorem witness_EnableDisableWordLaws : (255 : Nat) ≤ 255 := by decide

theorem witness_CbuildResultOnValidConfigs : ConfigValid cfgBounds ∧ ConfigValid cfgA := ⟨cfgBounds_valid, cfgA_valid⟩

theorem witness_CbuildReportsTheFirstViolatedField :
    FirstViolated cfgBadDiv .div ∧ FirstViolated { cfgA with delay := #v[-1, 20, 30, 40] } (.delay 0) ∧
    ¬ ConfigValid cfgBadDiv :=
  ⟨cfgBadDiv_first, cfgBadDelay_first, fun h => cfgBadDiv_first.1 (h .div)⟩

theorem witness_CbuildWordsKeepFormatAndFields : ∃ cw, cbuild params cfgBounds = .ok cw :=
  ⟨packWords params cfgBounds, by simp only [cbuild, (by decide +kernel : firstViolated params cfgBounds = none)]⟩

/-- M22 and its companion. -/
theorem witness_IgnoredBitsDoNotAffectDecodedFields :
    (0xFFFF2147 : Word).setWidth 16 = (0x00002147 : Word).setWidth 16 ∧
    (0x00000007 : Word).setWidth 4 = (0xFFFFFFF7 : Word).setWidth 4 ∧
    (0x00000006 : Word).setWidth 4 = (0xFFFFFFF6 : Word).setWidth 4 ∧
    (0x000001FF : Word).setWidth 8 = (0x000000FF : Word).setWidth 8 := by decide

theorem witness_OhencResultAndLaws : (4 : Nat) ≤ 4 ∧ (0 : Nat) ≤ 4 := by decide

theorem witness_DeploySucceeds :
    ({ State.reset with deployAnswers := [.ok h1 devA] } : State).ss = .unbound ∧
    ({ State.reset with deployAnswers := [.ok h1 devA] } : State).deployAnswers = .ok h1 devA :: [] := ⟨rfl, rfl⟩

theorem witness_DeployFailsTimesOutOrIsRefused :
    (State.reset.ss = .unbound ∧ ({ State.reset with deployAnswers := [.fail devA] } : State).deployAnswers = .fail devA :: []) ∧
    (({ State.reset with deployAnswers := [.tout devA, .fail devA] } : State).deployAnswers = .tout devA :: [.fail devA]) ∧
    deployedState.ss ≠ .unbound ∧ configuredState.ss ≠ .unbound := ⟨⟨rfl, rfl⟩, rfl, by decide, by decide⟩

theorem witness_ConfigureSucceeds :
    readyState.ss ≠ .unbound ∧ readyState.handle = some h1 ∧ ConfigValid cfgBounds ∧
    readyState.writeAnswers = List.replicate 9 WriteAnswer.ok ++ [] := ⟨by decide, rfl, cfgBounds_valid, rfl⟩

theorem witness_ConfigureRejectsWithoutAccess :
    State.reset.ss = .unbound ∧ configuredState.ss ≠ .unbound ∧ FirstViolated cfgBadDiv .div :=
  ⟨rfl, by decide, cfgBadDiv_first⟩

/-- The first write and the last one, landed and not, error and timeout. -/
theorem witness_ConfigureStopsAtTheFirstFailedWrite :
    configuredState.ss ≠ .unbound ∧ configuredState.handle = some h1 ∧ ConfigValid cfgBounds ∧
    ({ configuredState with writeAnswers := [.tout true] } : State).writeAnswers =
      List.replicate (0 : Fin 9).val WriteAnswer.ok ++ failedWrite true true :: [] ∧
    ({ configuredState with writeAnswers := List.replicate 8 .ok ++ [.terr false] } : State).writeAnswers =
      List.replicate (8 : Fin 9).val WriteAnswer.ok ++ failedWrite false false :: [] :=
  ⟨by decide, rfl, cfgBounds_valid, rfl, rfl⟩

/-- The reversed order of the nine writes, with the other tie rule, is a legal choice. -/
theorem witness_ConfigureSucceedsForEveryWriteOrder :
    Params.Legal { params with cfgWriteOrder := [8, 7, 6, 5, 4, 3, 2, 1, 0], roundTies := .away } ∧
    readyState.ss = .deployed ∧ readyState.handle = some h1 ∧ ConfigValid cfgA ∧
    readyState.writeAnswers = List.replicate 9 WriteAnswer.ok ++ [] :=
  ⟨by decide, rfl, rfl, cfgA_valid, rfl⟩

theorem witness_EnableAndDisableSucceed :
    (answeringState .ok).ss = .configured ∧ (answeringState .ok).handle = some h1 ∧
    (answeringState .ok).writeAnswers = .ok :: [] := ⟨rfl, rfl, rfl⟩

theorem witness_EnableAndDisableNotReadyBeforeConfigured :
    State.reset.ss ≠ .configured ∧ deployedState.ss ≠ .configured := by decide

theorem witness_EnableAndDisableFailedWrite :
    (answeringState (.tout false)).ss = .configured ∧ (answeringState (.tout false)).handle = some h1 ∧
    (answeringState (.tout false)).writeAnswers = failedWrite true false :: [] ∧
    (answeringState (.terr true)).writeAnswers = failedWrite false true :: [] := ⟨rfl, rfl, rfl, rfl⟩

theorem witness_StatusSucceeds :
    deployedState.ss ≠ .unbound ∧ configuredState.ss ≠ .unbound ∧ configuredState.handle = some h1 ∧
    ({ configuredState with
        readAnswers := [.ok (showing 0 1), .ok (showing 1 2), .ok (showing 2 3), .ok (showing 3 4)] } : State).readAnswers =
      .ok (showing 0 1) :: .ok (showing 1 2) :: .ok (showing 2 3) :: .ok (showing 3 4) :: [] :=
  ⟨by decide, by decide, rfl, rfl⟩

/-- The first read and the last one. -/
theorem witness_StatusStopsAtTheFirstFailedRead :
    configuredState.ss ≠ .unbound ∧ configuredState.handle = some h1 ∧
    ([] : List (Vector Word 4)).length < 4 ∧ [showing 0 1, showing 1 2, showing 2 3].length < 4 ∧
    ({ configuredState with readAnswers := [.tout] } : State).readAnswers =
      ([] : List (Vector Word 4)).map ReadAnswer.ok ++ failedRead true :: [] ∧
    ({ configuredState with
        readAnswers := [.ok (showing 0 1), .ok (showing 1 2), .ok (showing 2 3), .terr] } : State).readAnswers =
      [showing 0 1, showing 1 2, showing 2 3].map ReadAnswer.ok ++ failedRead false :: [] :=
  ⟨by decide, rfl, by decide, by decide, rfl, rfl⟩

theorem witness_StatusDisconnectedWhileUnbound : State.reset.ss = .unbound := rfl

theorem witness_ReleaseSucceeds :
    deployedState.ss ≠ .unbound ∧ (answeringState .ok).ss ≠ .unbound ∧ (answeringState .ok).handle = some h1 ∧
    (answeringState .ok).releaseAnswers = .ok devA :: [] := ⟨by decide, by decide, rfl, rfl⟩

theorem witness_ReleaseIdempotentWhileUnbound : State.reset.ss = .unbound := rfl

/-- From reset the answer to DEPLOY is a free value: its list is empty. -/
theorem witness_SessionOperationsAlwaysReturn :
    BlockInv configuredState ∧ BlockInv deployedState ∧
    BlockInv State.reset ∧ State.reset.ss = .unbound ∧ State.reset.deployAnswers = [] :=
  ⟨configuredState_inv, deployedState_inv, reset_inv, rfl, rfl⟩

/-- The reversed order of the four reads is a legal choice. -/
theorem witness_StatusSucceedsForEveryReadOrder :
    Params.Legal { params with statusReadOrder := [3, 2, 1, 0] } ∧ configuredState.ss ≠ .unbound ∧
    configuredState.handle = some h1 ∧
    ({ configuredState with readAnswers := [.ok (showing 3 7), .ok (showing 2 1), .ok (showing 1 1), .ok (showing 0 2)] }
      : State).readAnswers =
      [3, 2, 1, 0].map (fun j : Fin 4 => ReadAnswer.ok (showing j (#v[2, 1, 1, 7])[j])) ++ [] :=
  ⟨by decide, by decide, rfl, rfl⟩

/-- While the block holds no handle the device may come to hold anything. -/
theorem witness_unheld_device_moves (dev : DeviceRegs) : Reachable (State.reset.deviceHolds dev) :=
  Reachable.unheldDeviceMoves dev Reachable.reset rfl

end Sys2Proof.Tests
end

/-! The voltage codec (40_voltage_codec.md): the anchors of VENC and the range of VDEC. -/

namespace Sys2Proof.Machine

/-- R10: a scaled voltage that is already an integer needs no rounding, under either tie rule. -/
@[simp] theorem rnd_intCast (ties : Ties) (k : Int) : rnd ties k = k := by
  simp [rnd]

theorem inVoltRange_iff (v : Volt) : inVoltRange v = true ↔ -5 ≤ v ∧ v ≤ 5 := by
  simp [inVoltRange]

theorem venc_of_mem_range (p : Params) {v : Volt} (lo : -5 ≤ v) (hi : v ≤ 5) : venc p v = .ok (encodeCode p v) :=
  if_pos ((inVoltRange_iff v).2 ⟨lo, hi⟩)

theorem exec_venc_of_venc_ok {v : Volt} {c : Code} (h : venc params v = .ok c) (s : State) :
    exec (.venc v) s = .next (onlyReplied s (.ok (.code c))) := by
  have arm : exec (.venc v) s = execVenc v s := rfl
  simp only [arm, execVenc, h, pureAnswer_eq]

theorem exec_vdec (c : Code) (s : State) : exec (.vdec c) s = .next (onlyReplied s (.ok (.volt (vdec c)))) :=
  congrArg Host.Outcome.next (pureAnswer_eq s (.volt (vdec c)))

theorem encodeInt_of_nonneg (p : Params) {v : Volt} (h : 0 ≤ v) : encodeInt p v = rnd p.roundTies (v * 32767 / 5) :=
  if_pos h

theorem encodeInt_of_neg (p : Params) {v : Volt} (h : v < 0) :
    encodeInt p v = rnd p.roundTies (v * (p.encNegScale : Rat) / 5) :=
  if_neg (not_le.2 h)

/-- R122: an anchor scales to an integer, so it is encoded the same under every tie rule. -/
theorem encodeInt_five (p : Params) : encodeInt p 5 = 32767 := by
  have scaled : (5 * 32767 / 5 : Rat) = ((32767 : Int) : Rat) := by norm_num
  rw [encodeInt_of_nonneg p (by norm_num), scaled, rnd_intCast]

theorem encodeInt_zero (p : Params) : encodeInt p 0 = 0 := by
  have scaled : (0 * 32767 / 5 : Rat) = ((0 : Int) : Rat) := by norm_num
  rw [encodeInt_of_nonneg p le_rfl, scaled, rnd_intCast]

theorem encodeInt_neg_five (p : Params) : encodeInt p (-5) = -p.encNegScale := by
  have scaled : (-5 * (p.encNegScale : Rat) / 5 : Rat) = ((-p.encNegScale : Int) : Rat) := by push_cast; ring
  rw [encodeInt_of_neg p (by norm_num), scaled, rnd_intCast]

theorem encodeCode_five (p : Params) : encodeCode p 5 = 0x7FFF := by
  rw [encodeCode, encodeInt_five]; rfl

theorem encodeCode_zero (p : Params) : encodeCode p 0 = 0x0000 := by
  rw [encodeCode, encodeInt_zero]; rfl

/-- Unlike the other two, this anchor rests on `ENC_NEG_SCALE` = 32768 (decision D3). -/
theorem encodeCode_neg_five : encodeCode params (-5) = 0x8000 := by
  rw [encodeCode, encodeInt_neg_five]; rfl

/-- Settles O25: each anchor lies in the domain and scales to an integer, which rounding keeps. -/
theorem vencAnchors : Obligations.VencAnchors := by
  intro s
  refine ⟨exec_venc_of_venc_ok ?_ s, exec_venc_of_venc_ok ?_ s, exec_venc_of_venc_ok ?_ s⟩
  · rw [venc_of_mem_range params (by norm_num) le_rfl, encodeCode_five]
  · rw [venc_of_mem_range params (by norm_num) (by norm_num), encodeCode_zero]
  · rw [venc_of_mem_range params le_rfl (by norm_num), encodeCode_neg_five]

theorem vdec_of_neg {c : Code} (h : c.toInt < 0) : vdec c = (c.toInt : Rat) * 5 / 32768 := if_pos h

theorem vdec_of_nonneg {c : Code} (h : 0 ≤ c.toInt) : vdec c = (c.toInt : Rat) * 5 / 32767 := if_neg (not_lt.2 h)

/-- R123: each half range has its own divisor, chosen so that its extreme code decodes to the bound itself. -/
theorem vdec_mem_range (c : Code) : -5 ≤ vdec c ∧ vdec c ≤ 5 := by
  have lo : (-32768 : Rat) ≤ c.toInt := by exact_mod_cast BitVec.le_toInt c
  have hi : (c.toInt : Rat) ≤ 32767 := by exact_mod_cast Int.le_sub_one_of_lt (BitVec.toInt_lt (x := c))
  rcases lt_or_ge c.toInt 0 with neg | nonneg
  · have negRat : (c.toInt : Rat) < 0 := by exact_mod_cast neg
    rw [vdec_of_neg neg]
    constructor <;> linarith
  · have nonnegRat : (0 : Rat) ≤ c.toInt := by exact_mod_cast nonneg
    rw [vdec_of_nonneg nonneg]
    constructor <;> linarith

/-- Settles O26: the voltage is `vdec c`, which lies in the domain for every code. -/
theorem vdecResult : Obligations.VdecResult := by
  intro c s
  obtain ⟨lo, hi⟩ := vdec_mem_range c
  exact ⟨vdec c, rfl, lo, hi, exec_vdec c s⟩

end Sys2Proof.Machine

/-! The control register packer (41_control_packer.md): the packed words as unsigned numbers, and bit 31 of word 0. -/

namespace Sys2Proof.Machine

/-- R89: a field that fits its width keeps its unsigned value when it is extended to a word. -/
theorem zeroExtend_ofNat_of_lt {width n : Nat} (fits : n < 2 ^ width) :
    (BitVec.ofNat width n).zeroExtend 32 = BitVec.ofNat 32 n :=
  BitVec.eq_of_toNat_eq (by simp [Nat.mod_eq_of_lt fits])

/-- R152: the divider lies below bit 31, so joining it to the disable bit adds it. -/
theorem pack0_eq_word0Of (e : Bool) {d : Nat} (fits : d ≤ 255) : pack0 e d = word0Of e d := by
  rw [pack0, word0Of, zeroExtend_ofNat_of_lt (by omega : d < 2 ^ 8)]
  cases e with
  | true => simp [disBit]
  | false =>
    have top : disBit false <<< 31 ||| (0 : Word) <<< 30 = BitVec.ofNat 32 (2 ^ 31) := rfl
    have join : 2 ^ 31 ||| d = 2 ^ 31 + d := (Nat.two_pow_add_eq_or_of_lt (by omega : d < 2 ^ 31) 1).symm
    rw [top, ← BitVec.ofNat_or, join]
    rfl

theorem packd_eq_ofNat {d : Nat} (fits : d ≤ 127) : packd d = BitVec.ofNat 32 d :=
  zeroExtend_ofNat_of_lt (by omega)

theorem packv_eq_ofNat_toNat (c : Code) : packv c = BitVec.ofNat 32 c.toNat :=
  (BitVec.ofNat_toNat 32 c).symm

theorem exec_pack0 (e : Bool) (d : Nat) (s : State) :
    exec (.pack0 e d) s = .next (onlyReplied s (.ok (.word (pack0 e d)))) :=
  congrArg Host.Outcome.next (pureAnswer_eq s (.word (pack0 e d)))

theorem exec_packd (d : Nat) (s : State) : exec (.packd d) s = .next (onlyReplied s (.ok (.word (packd d)))) :=
  congrArg Host.Outcome.next (pureAnswer_eq s (.word (packd d)))

theorem exec_packv (c : Code) (s : State) : exec (.packv c) s = .next (onlyReplied s (.ok (.word (packv c)))) :=
  congrArg Host.Outcome.next (pureAnswer_eq s (.word (packv c)))

/-- Settles O33: each packer replies with its packed word, which is the stated number when the operand fits its field. -/
theorem wordPackerResults : Obligations.WordPackerResults := by
  refine ⟨fun e d s fits => ?_, fun d s fits => ?_, fun c s => ?_⟩
  · rw [exec_pack0, pack0_eq_word0Of e fits]
  · rw [exec_packd, packd_eq_ofNat fits]
  · rw [exec_packv, packv_eq_ofNat_toNat]

/-- R157: W0EN's mask is the 31 ones below the disable bit. -/
@[simp] theorem clearDis_getLsbD (w : Word) (b : Nat) :
    (clearDis w).getLsbD b = (w.getLsbD b && decide (b < 31)) := by
  have mask : (0x7FFFFFFF : Word) = (BitVec.allOnes 31).setWidth 32 := rfl
  have low : b < 32 ∧ b < 31 ↔ b < 31 := by omega
  rw [clearDis, mask, BitVec.getLsbD_and, BitVec.getLsbD_setWidth, BitVec.getLsbD_allOnes]
  simp only [← Bool.decide_and, low]

/-- R158: W0DIS's mask is the disable bit alone. -/
@[simp] theorem setDis_getLsbD (w : Word) (b : Nat) :
    (setDis w).getLsbD b = (w.getLsbD b || decide (b = 31)) := by
  have mask : (0x80000000 : Word) = BitVec.twoPow 32 31 := rfl
  have top : 31 < 32 ∧ 31 = b ↔ b = 31 := by omega
  rw [setDis, mask, BitVec.getLsbD_or, BitVec.getLsbD_twoPow]
  simp only [← Bool.decide_and, top]

theorem exec_w0en (w : Word) (s : State) : exec (.w0en w) s = .next (onlyReplied s (.ok (.word (clearDis w)))) :=
  congrArg Host.Outcome.next (pureAnswer_eq s (.word (clearDis w)))

theorem exec_w0dis (w : Word) (s : State) : exec (.w0dis w) s = .next (onlyReplied s (.ok (.word (setDis w)))) :=
  congrArg Host.Outcome.next (pureAnswer_eq s (.word (setDis w)))

/-- Settles O34: the replies are `clearDis w` and `setDis w`, whose bits the two masks fix one by one. -/
theorem enableDisableWordResults : Obligations.EnableDisableWordResults := by
  refine fun w s => ⟨⟨exec_w0en w s, ?_, fun b below => ?_⟩, ⟨exec_w0dis w s, ?_, fun b below => ?_⟩⟩
  · exact (clearDis_getLsbD w 31).trans (by simp)
  · exact (clearDis_getLsbD w b).trans (by simp [below])
  · exact (setDis_getLsbD w 31).trans (by simp)
  · exact (setDis_getLsbD w b).trans (by simp [below.ne])

end Sys2Proof.Machine

/-! The status register decoder (42_status_decoder.md): the four fields as slices, and the priority encoder of XSTATE. -/

namespace Sys2Proof.Machine

theorem exec_xdac (w : Word) (s : State) : exec (.xdac w) s = .next (onlyReplied s (.ok (.volt (xdac w)))) :=
  congrArg Host.Outcome.next (pureAnswer_eq s (.volt (xdac w)))

theorem exec_xsticky (w : Word) (s : State) :
    exec (.xsticky w) s = .next (onlyReplied s (.ok (.nibble (xsticky w)))) :=
  congrArg Host.Outcome.next (pureAnswer_eq s (.nibble (xsticky w)))

theorem exec_xstate (w : Word) (s : State) :
    exec (.xstate w) s = .next (onlyReplied s (.ok (.stateNumber (xstate w)))) :=
  congrArg Host.Outcome.next (pureAnswer_eq s (.stateNumber (xstate w)))

theorem exec_xdiv (w : Word) (s : State) : exec (.xdiv w) s = .next (onlyReplied s (.ok (.byte (xdiv w)))) :=
  congrArg Host.Outcome.next (pureAnswer_eq s (.byte (xdiv w)))

theorem exec_sdec (raw : RawWords) (s : State) :
    exec (.sdec raw) s = .next (onlyReplied s (.ok (.snapshot (sdec raw)))) :=
  congrArg Host.Outcome.next (pureAnswer_eq s (.snapshot (sdec raw)))

/-- A slice that starts at bit 0 is a truncation: `Word` is wide enough for each field. -/
theorem xdac_eq_vdec_setWidth (w : Word) : xdac w = vdec (w.setWidth 16) := by
  rw [xdac, BitVec.setWidth_eq_extractLsb' (by decide)]

theorem xsticky_eq_setWidth (w : Word) : xsticky w = w.setWidth 4 := by
  rw [xsticky, BitVec.setWidth_eq_extractLsb' (by decide)]

theorem xstate_eq_lowestSet_setWidth (w : Word) : xstate w = lowestSet (w.setWidth 4) := by
  rw [xstate, BitVec.setWidth_eq_extractLsb' (by decide)]

theorem xdiv_eq_setWidth (w : Word) : xdiv w = w.setWidth 8 := by
  rw [xdiv, BitVec.setWidth_eq_extractLsb' (by decide)]

/-- R195: each field comes from its own raw word, and the raw words are copied. -/
theorem sdec_eq_slices (raw : RawWords) :
    sdec raw = { dacVoltage := vdec (raw[0].setWidth 16), sticky := raw[1].setWidth 4,
                 currentState := xstate raw[2], divCounter := raw[3].setWidth 8, raw := raw } := by
  rw [sdec, xdac_eq_vdec_setWidth, xsticky_eq_setWidth, xdiv_eq_setWidth]

/-- Settles O39: each extractor replies with its field, which is the truncation of the word to the field's width. -/
theorem fieldExtractorResults : Obligations.FieldExtractorResults := by
  refine fun w s => ⟨?_, ?_, ?_⟩
  · rw [exec_xdac, xdac_eq_vdec_setWidth]
  · rw [exec_xsticky, xsticky_eq_setWidth]
  · rw [exec_xdiv, xdiv_eq_setWidth]

/-- Settles O41: the reply is `sdec raw`, whose fields are the slices of their words. -/
theorem sdecResult : Obligations.SdecResult := by
  intro raw s
  rw [exec_sdec, sdec_eq_slices]

/-- No bit below bit k is set. -/
def ClearBelow {width : Nat} (v : BitVec width) (k : Nat) : Prop := ∀ a < k, v.getLsbD a = false

theorem clearBelow_zero {width : Nat} (v : BitVec width) : ClearBelow v 0 :=
  fun _ below => absurd below (Nat.not_lt_zero _)

theorem ClearBelow.succ {width : Nat} {v : BitVec width} {k : Nat} (clear : ClearBelow v k)
    (notSet : ¬ v.getLsbD k = true) : ClearBelow v (k + 1) :=
  Nat.forall_lt_succ_right.2 ⟨clear, Bool.eq_false_of_not_eq_true notSet⟩

/-- Bit k of the vector is set and no bit below it is (42_status_decoder.md R193). -/
def IsLowestSet {width : Nat} (v : BitVec width) (k : Nat) : Prop := v.getLsbD k = true ∧ ClearBelow v k

theorem IsLowestSet.unique {width : Nat} {v : BitVec width} {j k : Nat} (hj : IsLowestSet v j)
    (hk : IsLowestSet v k) : j = k := by
  obtain ⟨jSet, belowJ⟩ := hj
  obtain ⟨kSet, belowK⟩ := hk
  rcases lt_trichotomy j k with lt | eq | gt
  · exact absurd jSet (by simp [belowK j lt])
  · exact eq
  · exact absurd kSet (by simp [belowJ k gt])

/-- What the priority encoder can answer: 0 for a vector with no bit set, else the lowest set bit, counted from 1. -/
theorem lowestSet_cases (b : Nibble) :
    lowestSet b = 0 ∧ ClearBelow b 4 ∨ ∃ k < 4, (lowestSet b).val = k + 1 ∧ IsLowestSet b k := by
  have clear0 := clearBelow_zero b
  unfold lowestSet
  split_ifs with h0 h1 h2 h3
  · exact .inr ⟨0, by decide, rfl, h0, clear0⟩
  · exact .inr ⟨1, by decide, rfl, h1, clear0.succ h0⟩
  · exact .inr ⟨2, by decide, rfl, h2, (clear0.succ h0).succ h1⟩
  · exact .inr ⟨3, by decide, rfl, h3, ((clear0.succ h0).succ h1).succ h2⟩
  · exact .inl ⟨rfl, (((clear0.succ h0).succ h1).succ h2).succ h3⟩

theorem lowestSet_eq_zero_iff (b : Nibble) : lowestSet b = 0 ↔ ClearBelow b 4 := by
  rcases lowestSet_cases b with ⟨zero, clear⟩ | ⟨k, below, number, set, -⟩
  · exact iff_of_true zero clear
  · refine iff_of_false (fun zero => ?_) (fun clear => ?_)
    · simp [zero] at number
    · simp [clear k below] at set

theorem lowestSet_eq_succ_iff (b : Nibble) {k : Nat} (below : k < 4) :
    (lowestSet b).val = k + 1 ↔ IsLowestSet b k := by
  rcases lowestSet_cases b with ⟨zero, clear⟩ | ⟨j, -, number, lowest⟩
  · refine iff_of_false (by simp [zero]) (fun ⟨set, _⟩ => ?_)
    simp [clear k below] at set
  · rw [number, Nat.add_right_cancel_iff]
    exact ⟨fun eq => eq ▸ lowest, lowest.unique⟩

/-- Truncation keeps the bits below the new width. -/
theorem getLsbD_setWidth_of_lt {width short k : Nat} (v : BitVec width) (below : k < short) :
    (v.setWidth short).getLsbD k = v.getLsbD k := by
  simp [below]

theorem clearBelow_setWidth_iff {width short k : Nat} (v : BitVec width) (fits : k ≤ short) :
    ClearBelow (v.setWidth short) k ↔ ClearBelow v k :=
  forall₂_congr fun _ below => by rw [getLsbD_setWidth_of_lt v (below.trans_le fits)]

theorem isLowestSet_setWidth_iff {width short k : Nat} (v : BitVec width) (below : k < short) :
    IsLowestSet (v.setWidth short) k ↔ IsLowestSet v k :=
  and_congr (by rw [getLsbD_setWidth_of_lt v below]) (clearBelow_setWidth_iff v below.le)

theorem xstate_eq_zero_iff (w : Word) : xstate w = 0 ↔ ClearBelow w 4 := by
  rw [xstate_eq_lowestSet_setWidth, lowestSet_eq_zero_iff, clearBelow_setWidth_iff w le_rfl]

theorem xstate_eq_succ_iff (w : Word) {k : Nat} (below : k < 4) : (xstate w).val = k + 1 ↔ IsLowestSet w k := by
  rw [xstate_eq_lowestSet_setWidth, lowestSet_eq_succ_iff _ below, isLowestSet_setWidth_iff w below]

/-- Settles O40: the reply is `xstate w`, the priority encoder of the word's low four bits. -/
theorem xstateReportsTheLowestSetBit : Obligations.XstateReportsTheLowestSetBit :=
  fun w s => ⟨xstate w, exec_xstate w s, xstate_eq_zero_iff w, fun _ below => xstate_eq_succ_iff w below⟩

end Sys2Proof.Machine

/-! The decoder (30_encoding.md section 1, table S): what each operand reader reads, and the round trips. -/

namespace Sys2Proof.Machine

/-- Log entry 3: an operand inside the range its type has is read back as the number presented. -/
theorem takeInt_of_le {top n : Nat} (mk : Nat → Instr) (fits : n ≤ top) : takeInt top mk [.int n] = some (mk n) := by
  simp [takeInt, fits]

theorem takeBoolInt_of_le {top n : Nat} (mk : Bool → Nat → Instr) (e : Bool) (fits : n ≤ top) :
    takeBoolInt top mk [.bool e, .int n] = some (mk e n) := by
  simp [takeBoolInt, fits]

theorem decode_of_read {r : Request} {read : List Operand → Option Instr} {i : Instr}
    (row : operandReader r.sel = some read) (reads : read r.operands = some i) : decode r = .ok i := by
  simp only [decode, row, reads]

/-- Settles O2: every operation's row of table S reads the operation's own operands; only PACK0, PACKD and OHENC check a
range there. -/
theorem decodeOfEncodeIsIdentity : Obligations.DecodeOfEncodeIsIdentity := by
  intro i wf
  cases i with
  | pack0 e d => exact decode_of_read rfl (takeBoolInt_of_le .pack0 e (of_decide_eq_true wf))
  | packd d => exact decode_of_read rfl (takeInt_of_le .packd (of_decide_eq_true wf))
  | ohenc n => exact decode_of_read rfl (takeInt_of_le .ohenc (of_decide_eq_true wf))
  | _ => rfl

/-- A reader of the selector's operands reads only well-formed operations, each from its own request. -/
def ReadsOnlyRequestsOf (sel : Selector) (read : List Operand → Option Instr) : Prop :=
  ∀ ops i, read ops = some i → i.WellFormed ∧ encode i = ⟨sel, ops⟩

section Readers

variable {sel : Selector}

theorem takeVolt_reads {mk : Volt → Instr} (own : ∀ v, (mk v).WellFormed ∧ encode (mk v) = ⟨sel, [.volt v]⟩) :
    ReadsOnlyRequestsOf sel (takeVolt mk) := by
  intro ops i h
  unfold takeVolt at h
  split at h <;> cases h
  exact own _

theorem takeCode_reads {mk : Code → Instr} (own : ∀ c, (mk c).WellFormed ∧ encode (mk c) = ⟨sel, [.code c]⟩) :
    ReadsOnlyRequestsOf sel (takeCode mk) := by
  intro ops i h
  unfold takeCode at h
  split at h <;> cases h
  exact own _

theorem takeWord_reads {mk : Word → Instr} (own : ∀ w, (mk w).WellFormed ∧ encode (mk w) = ⟨sel, [.word w]⟩) :
    ReadsOnlyRequestsOf sel (takeWord mk) := by
  intro ops i h
  unfold takeWord at h
  split at h <;> cases h
  exact own _

theorem takeConfig_reads {mk : SequencerConfig → Instr}
    (own : ∀ cfg, (mk cfg).WellFormed ∧ encode (mk cfg) = ⟨sel, [.config cfg]⟩) :
    ReadsOnlyRequestsOf sel (takeConfig mk) := by
  intro ops i h
  unfold takeConfig at h
  split at h <;> cases h
  exact own _

theorem takeRaw_reads {mk : RawWords → Instr} (own : ∀ r, (mk r).WellFormed ∧ encode (mk r) = ⟨sel, [.raw r]⟩) :
    ReadsOnlyRequestsOf sel (takeRaw mk) := by
  intro ops i h
  unfold takeRaw at h
  split at h <;> cases h
  exact own _

theorem takeDeploy_reads {mk : Nat → List Byte → Nat → Instr}
    (own : ∀ a b c, (mk a b c).WellFormed ∧ encode (mk a b c) = ⟨sel, [.token a, .bytes b, .token c]⟩) :
    ReadsOnlyRequestsOf sel (takeDeploy mk) := by
  intro ops i h
  unfold takeDeploy at h
  split at h <;> cases h
  exact own _ _ _

theorem takeNone_reads {i : Instr} (own : i.WellFormed ∧ encode i = ⟨sel, []⟩) :
    ReadsOnlyRequestsOf sel (takeNone i) := by
  intro ops j h
  unfold takeNone at h
  split at h <;> cases h
  exact own

/-- The range check is what makes the operation read well formed, and the integer presented its operand. -/
theorem takeInt_reads {top : Nat} {mk : Nat → Instr}
    (own : ∀ n ≤ top, (mk n).WellFormed ∧ encode (mk n) = ⟨sel, [.int n]⟩) :
    ReadsOnlyRequestsOf sel (takeInt top mk) := by
  intro ops i h
  unfold takeInt at h
  split at h
  · next n =>
    split_ifs at h with inRange
    obtain ⟨n, rfl⟩ := Int.eq_ofNat_of_zero_le inRange.1
    cases h
    exact own n (by omega)
  · cases h

theorem takeBoolInt_reads {top : Nat} {mk : Bool → Nat → Instr}
    (own : ∀ e, ∀ n ≤ top, (mk e n).WellFormed ∧ encode (mk e n) = ⟨sel, [.bool e, .int n]⟩) :
    ReadsOnlyRequestsOf sel (takeBoolInt top mk) := by
  intro ops i h
  unfold takeBoolInt at h
  split at h
  · next e n =>
    split_ifs at h with inRange
    obtain ⟨n, rfl⟩ := Int.eq_ofNat_of_zero_le inRange.1
    cases h
    exact own e n (by omega)
  · cases h

end Readers

/-- Table S row by row: the reader of a selector reads the operations that have it. -/
theorem operandReader_reads {sel : Selector} {read : List Operand → Option Instr}
    (row : operandReader sel = some read) : ReadsOnlyRequestsOf sel read := by
  have isRow : ∀ {k : Selector}, sel.toNat = k.toNat → sel = k := BitVec.eq_of_toNat_eq
  unfold operandReader at row
  split at row
  · next k => cases row; cases isRow (k := 0b00000) k; exact takeVolt_reads fun _ => ⟨rfl, rfl⟩
  · next k => cases row; cases isRow (k := 0b00001) k; exact takeCode_reads fun _ => ⟨rfl, rfl⟩
  · next k =>
    cases row; cases isRow (k := 0b01000) k
    exact takeBoolInt_reads fun _ _ fits => ⟨decide_eq_true fits, rfl⟩
  · next k =>
    cases row; cases isRow (k := 0b01001) k
    exact takeInt_reads fun _ fits => ⟨decide_eq_true fits, rfl⟩
  · next k => cases row; cases isRow (k := 0b01010) k; exact takeCode_reads fun _ => ⟨rfl, rfl⟩
  · next k => cases row; cases isRow (k := 0b01011) k; exact takeConfig_reads fun _ => ⟨rfl, rfl⟩
  · next k => cases row; cases isRow (k := 0b01100) k; exact takeWord_reads fun _ => ⟨rfl, rfl⟩
  · next k => cases row; cases isRow (k := 0b01101) k; exact takeWord_reads fun _ => ⟨rfl, rfl⟩
  · next k => cases row; cases isRow (k := 0b10000) k; exact takeWord_reads fun _ => ⟨rfl, rfl⟩
  · next k => cases row; cases isRow (k := 0b10001) k; exact takeWord_reads fun _ => ⟨rfl, rfl⟩
  · next k => cases row; cases isRow (k := 0b10010) k; exact takeWord_reads fun _ => ⟨rfl, rfl⟩
  · next k => cases row; cases isRow (k := 0b10011) k; exact takeWord_reads fun _ => ⟨rfl, rfl⟩
  · next k => cases row; cases isRow (k := 0b10100) k; exact takeRaw_reads fun _ => ⟨rfl, rfl⟩
  · next k =>
    cases row; cases isRow (k := 0b10101) k
    exact takeInt_reads fun _ fits => ⟨decide_eq_true fits, rfl⟩
  · next k => cases row; cases isRow (k := 0b11000) k; exact takeDeploy_reads fun _ _ _ => ⟨rfl, rfl⟩
  · next k => cases row; cases isRow (k := 0b11001) k; exact takeConfig_reads fun _ => ⟨rfl, rfl⟩
  · next k => cases row; cases isRow (k := 0b11010) k; exact takeNone_reads ⟨rfl, rfl⟩
  · next k => cases row; cases isRow (k := 0b11011) k; exact takeNone_reads ⟨rfl, rfl⟩
  · next k => cases row; cases isRow (k := 0b11100) k; exact takeNone_reads ⟨rfl, rfl⟩
  · next k => cases row; cases isRow (k := 0b11101) k; exact takeNone_reads ⟨rfl, rfl⟩
  · cases row

/-- Settles O3: what decodes was read by the reader of its selector, which reads only requests of well-formed
operations. -/
theorem encodeOfDecodeIsIdentity : Obligations.EncodeOfDecodeIsIdentity := by
  intro r i h
  unfold decode at h
  split at h
  · cases h
  next read row =>
    split at h
    · cases h
    next reads =>
      cases h
      exact operandReader_reads row _ _ reads

/-- Settles O1: the seven words hold the selectors of their rows, whose zero operands each reader accepts. -/
theorem tableWordsDecodeToTheirOperations : Obligations.TableWordsDecodeToTheirOperations :=
  ⟨rfl, rfl, rfl, rfl, rfl, rfl, rfl⟩

end Sys2Proof.Machine

/-! The checked fields of a config (41_control_packer.md R151) and what CBUILD returns (R155, R156). -/

namespace Sys2Proof.Machine

theorem mem_allFields (f : Field) : f ∈ allFields := by
  cases f with
  | delay k => fin_cases k <;> decide
  | volt k => fin_cases k <;> decide
  | div => decide

theorem fieldOk_iff (cfg : SequencerConfig) (f : Field) : fieldOk cfg f = true ↔ FieldInRange cfg f := by
  cases f with
  | delay k => simp [fieldOk, FieldInRange, inDelayRange]
  | volt k => exact inVoltRange_iff _
  | div => simp [fieldOk, FieldInRange, inDivRange]

theorem validConfig_iff (cfg : SequencerConfig) : validConfig cfg = true ↔ ConfigValid cfg := by
  simp [validConfig, ConfigValid, mem_allFields, fieldOk_iff]

theorem firstViolated_eq_none_iff {p : Params} (order : p.validationOrder.Perm allFields) (cfg : SequencerConfig) :
    firstViolated p cfg = none ↔ ConfigValid cfg := by
  simp [firstViolated, ConfigValid, order.mem_iff, mem_allFields, fieldOk_iff]

theorem firstViolated_eq_some_iff (cfg : SequencerConfig) (f : Field) :
    firstViolated params cfg = some f ↔ FirstViolated cfg f := by
  simp [firstViolated, List.find?_eq_some_iff_append, FirstViolated, ← fieldOk_iff, params]

theorem cbuild_of_valid {p : Params} (order : p.validationOrder.Perm allFields) {cfg : SequencerConfig}
    (valid : ConfigValid cfg) : cbuild p cfg = .ok (packWords p cfg) := by
  simp only [cbuild, (firstViolated_eq_none_iff order cfg).2 valid]

theorem cbuild_of_firstViolated {cfg : SequencerConfig} {f : Field} (first : FirstViolated cfg f) :
    cbuild params cfg = .error (.validationError f) := by
  simp only [cbuild, (firstViolated_eq_some_iff cfg f).2 first]

/-- What CBUILD can answer: the words of a valid config, or the error of the first violated field. -/
theorem cbuild_cases (cfg : SequencerConfig) :
    ConfigValid cfg ∧ cbuild params cfg = .ok (packWords params cfg) ∨
      ∃ f, FirstViolated cfg f ∧ cbuild params cfg = .error (.validationError f) := by
  cases h : firstViolated params cfg with
  | none =>
    have valid := (firstViolated_eq_none_iff (p := params) .rfl cfg).1 h
    exact .inl ⟨valid, cbuild_of_valid .rfl valid⟩
  | some f =>
    have first := (firstViolated_eq_some_iff cfg f).1 h
    exact .inr ⟨f, first, cbuild_of_firstViolated first⟩

theorem eq_packWords_of_cbuild_ok {cfg : SequencerConfig} {cw : ControlWordSet} (h : cbuild params cfg = .ok cw) :
    ConfigValid cfg ∧ cw = packWords params cfg := by
  rcases cbuild_cases cfg with ⟨valid, built⟩ | ⟨f, -, rejected⟩
  · exact ⟨valid, Except.ok.inj (h.symm.trans built)⟩
  · cases h.symm.trans rejected

theorem exec_cbuild_of_ok {cfg : SequencerConfig} {cw : ControlWordSet} (h : cbuild params cfg = .ok cw) (s : State) :
    exec (.cbuild cfg) s = .next (onlyReplied s (.ok (.wordSet cw))) := by
  have arm : exec (.cbuild cfg) s = execCbuild cfg s := rfl
  simp only [arm, execCbuild, h, pureAnswer_eq]

theorem exec_cbuild_of_error {cfg : SequencerConfig} {e : OpError} (h : cbuild params cfg = .error e) (s : State) :
    exec (.cbuild cfg) s = .next (onlyReplied s (.err e)) := by
  have arm : exec (.cbuild cfg) s = execCbuild cfg s := rfl
  simp only [arm, execCbuild, h, begin_fail_eq]

/-- R155: a valid config's fields fit their formats, so its packed words are the stated unsigned numbers. -/
theorem packWords_wordsOf {cfg : SequencerConfig} (valid : ConfigValid cfg) : WordsOf cfg (packWords params cfg) := by
  have delayFits : ∀ (k : Nat) (below : k < 4), cfg.delay[k].toNat ≤ 127 := fun k below =>
    Int.toNat_le.2 (valid (.delay ⟨k, below⟩)).2
  have divFits : cfg.div.toNat ≤ 255 := Int.toNat_le.2 (valid .div).2
  refine ⟨fun k => encodeCode params cfg.volt[k], fun k => ?_, ?_⟩
  · exact venc_of_mem_range params (valid (.volt k)).1 (valid (.volt k)).2
  · simp only [packWords, formattedWords, pack0_eq_word0Of _ divFits, packd_eq_ofNat (delayFits _ _),
      packv_eq_ofNat_toNat]
    rfl

/-- Settles O36: a valid config is built, and its packed words are those of its fields. -/
theorem cbuildResultOnValidConfigs : Obligations.CbuildResultOnValidConfigs := fun cfg s valid =>
  ⟨packWords params cfg, packWords_wordsOf valid, exec_cbuild_of_ok (cbuild_of_valid .rfl valid) s⟩

/-- Settles O37: VALIDATE finds the first violated field in the order of decision D6, and an invalid config has one. -/
theorem cbuildReportsTheFirstViolatedField : Obligations.CbuildReportsTheFirstViolatedField := by
  refine ⟨fun cfg f s first => exec_cbuild_of_error (cbuild_of_firstViolated first) s, fun cfg invalid => ?_⟩
  rcases cbuild_cases cfg with ⟨valid, -⟩ | ⟨f, first, -⟩
  · exact absurd valid invalid
  · exact ⟨f, first⟩

end Sys2Proof.Machine

/-! The formats of the control words (30_encoding.md R92, R96) and the laws of word 0 (41_control_packer.md R159). -/

namespace Sys2Proof.Machine

/-- R92: a field extended to a word has no bit above its width, where alone such a mask is set. -/
theorem zeroExtend_and_eq_zero {width : Nat} (x : BitVec width) {mask : Word} (clear : mask.setWidth width = 0) :
    x.zeroExtend 32 &&& mask = 0 := by
  refine BitVec.eq_of_getLsbD_eq fun b _ => ?_
  by_cases below : b < width
  · have bit := congrArg (·.getLsbD b) clear
    simp [below] at bit
    simp [bit]
  · simp [BitVec.getLsbD_of_ge x b (not_lt.1 below)]

theorem pack0_format (e : Bool) (d : Nat) : pack0 e d &&& 0x7FFFFF00 = 0 := by
  have top : (disBit e <<< 31 ||| (0 : Word) <<< 30) &&& 0x7FFFFF00 = 0 := by cases e <;> rfl
  rw [pack0, BitVec.and_or_distrib_right, top, zeroExtend_and_eq_zero _ rfl, BitVec.or_self]

theorem packd_format (d : Nat) : packd d &&& 0xFFFFFF80 = 0 := zeroExtend_and_eq_zero _ rfl

theorem packv_format (c : Code) : packv c &&& 0xFFFF0000 = 0 := zeroExtend_and_eq_zero _ rfl

theorem packWords_slotFormat (p : Params) (cfg : SequencerConfig) (i : Fin 9) :
    slotFormat i (packWords p cfg)[i] := by
  fin_cases i
  · exact pack0_format _ _
  iterate 4 exact packd_format _
  iterate 4 exact packv_format _

theorem setWidth_zeroExtend_self {width : Nat} (x : BitVec width) (fits : width ≤ 32) :
    (x.zeroExtend 32).setWidth width = x := by
  rw [BitVec.setWidth_setWidth_of_le _ fits, BitVec.setWidth_eq]

theorem pack0_divider (e : Bool) (d : Nat) : (pack0 e d).extractLsb' 0 8 = BitVec.ofNat 8 d := by
  have top : (disBit e <<< 31 ||| (0 : Word) <<< 30).setWidth 8 = 0 := by cases e <;> rfl
  rw [← BitVec.setWidth_eq_extractLsb' (by decide), pack0, BitVec.setWidth_or, top,
    setWidth_zeroExtend_self _ (by decide)]
  exact BitVec.zero_or

theorem pack0_disBit (e : Bool) (d : Nat) : (pack0 e d).getLsbD 31 = !e := by
  have high : ((BitVec.ofNat 8 d).zeroExtend 32).getLsbD 31 = false := by simp
  rw [pack0, BitVec.getLsbD_or, high]
  cases e <;> rfl

theorem packd_delay (d : Nat) : (packd d).extractLsb' 0 7 = BitVec.ofNat 7 d := by
  rw [← BitVec.setWidth_eq_extractLsb' (by decide), packd, setWidth_zeroExtend_self _ (by decide)]

theorem packv_code (c : Code) : (packv c).extractLsb' 0 16 = c := by
  rw [← BitVec.setWidth_eq_extractLsb' (by decide), packv, setWidth_zeroExtend_self _ (by decide)]

/-- A field in its range is a number its width holds. -/
theorem toNat_ofNat_toNat {width : Nat} {n : Int} (lo : 0 ≤ n) (hi : n < 2 ^ width) :
    ((BitVec.ofNat width n.toNat).toNat : Int) = n := by
  obtain ⟨n, rfl⟩ := Int.eq_ofNat_of_zero_le lo
  have fits : n < 2 ^ width := by exact_mod_cast hi
  simp [Nat.mod_eq_of_lt fits]

/-- Settles O38: the words CBUILD returns are the packed ones, and every packer keeps its slot's format and field. -/
theorem cbuildWordsKeepFormatAndFields : Obligations.CbuildWordsKeepFormatAndFields := by
  intro cfg cw built
  obtain ⟨valid, rfl⟩ := eq_packWords_of_cbuild_ok built
  have delay : ∀ k : Fin 4, (((packd cfg.delay[k].toNat).extractLsb' 0 7).toNat : Int) = cfg.delay[k] := fun k => by
    obtain ⟨lo, hi⟩ := valid (.delay k)
    rw [packd_delay, toNat_ofNat_toNat lo (by omega)]
  have volt : ∀ k : Fin 4, venc params cfg.volt[k] =
      .ok ((packv (encodeCode params cfg.volt[k])).extractLsb' 0 16) := fun k => by
    rw [packv_code, venc_of_mem_range params (valid (.volt k)).1 (valid (.volt k)).2]
  obtain ⟨lo, hi⟩ := valid .div
  have div : (((pack0 cfg.enable cfg.div.toNat).extractLsb' 0 8).toNat : Int) = cfg.div := by
    rw [pack0_divider, toNat_ofNat_toNat lo (by omega)]
  exact ⟨packWords_slotFormat params cfg, pack0_disBit _ _, div, delay 0, delay 1, delay 2, delay 3,
    volt 0, volt 1, volt 2, volt 3⟩

/-- R157, R158: a mask that keeps bits 30:0 drops out under a mask of bits 30:8. -/
theorem clearDis_format (w : Word) : clearDis w &&& 0x7FFFFF00 = w &&& 0x7FFFFF00 := by
  rw [clearDis, BitVec.and_assoc]; rfl

theorem setDis_format (w : Word) : setDis w &&& 0x7FFFFF00 = w &&& 0x7FFFFF00 := by
  rw [setDis, BitVec.and_or_distrib_right]
  exact BitVec.or_zero

theorem clearDis_divider (w : Word) : (clearDis w).extractLsb' 0 8 = w.extractLsb' 0 8 := by
  simp only [← BitVec.setWidth_eq_extractLsb' (by decide : 8 ≤ 32), clearDis, BitVec.setWidth_and]
  exact BitVec.and_allOnes

theorem setDis_divider (w : Word) : (setDis w).extractLsb' 0 8 = w.extractLsb' 0 8 := by
  simp only [← BitVec.setWidth_eq_extractLsb' (by decide : 8 ≤ 32), setDis, BitVec.setWidth_or]
  exact BitVec.or_zero

/-- R159: W0EN and W0DIS leave nothing of bit 31 as it was. -/
theorem clearDis_setDis (w : Word) : clearDis (setDis w) = clearDis w := by
  rw [setDis, clearDis, BitVec.and_or_distrib_right]
  exact BitVec.or_zero

theorem setDis_clearDis (w : Word) : setDis (clearDis w) = setDis w := by
  refine BitVec.eq_of_getLsbD_eq fun b fits => ?_
  rw [setDis_getLsbD, clearDis_getLsbD, setDis_getLsbD]
  by_cases top : b = 31
  · simp [top]
  · simp [(by omega : b < 31)]

theorem clearDis_idem (w : Word) : clearDis (clearDis w) = clearDis w := by
  rw [clearDis, clearDis, BitVec.and_assoc]; rfl

theorem setDis_idem (w : Word) : setDis (setDis w) = setDis w := by
  rw [setDis, setDis, BitVec.or_assoc]; rfl

/-- PACK0's two words of a divider differ by the disable bit alone. -/
theorem pack0_false_eq (d : Nat) : pack0 false d = setDis (pack0 true d) := by
  simp only [pack0, setDis, disBit]
  rw [BitVec.or_comm _ (0x80000000 : Word), ← BitVec.or_assoc]
  rfl

theorem clearDis_pack0_true (d : Nat) : clearDis (pack0 true d) = pack0 true d := by
  refine BitVec.eq_of_getLsbD_eq fun b fits => ?_
  rw [clearDis_getLsbD]
  by_cases below : b < 31
  · simp [below]
  · obtain rfl : b = 31 := by omega
    rw [pack0_disBit]; rfl

/-- Settles O35: bit by bit for the laws; a rebuilt word 0 is `pack0 true d` with bit 31 clear or set. -/
theorem enableDisableWordLaws : Obligations.EnableDisableWordLaws := by
  refine ⟨fun w => ⟨clearDis_idem w, setDis_idem w, clearDis_setDis w, setDis_clearDis w⟩, fun e d _ => ?_⟩
  cases e with
  | true => exact ⟨clearDis_pack0_true d, (pack0_false_eq d).symm⟩
  | false =>
    rw [pack0_false_eq, clearDis_setDis, setDis_idem]
    exact ⟨clearDis_pack0_true d, rfl⟩

end Sys2Proof.Machine

/-! The session operations (43_session_ops.md): one equation for each path an operation can take. -/

namespace Sys2Proof.Machine

section Paths

variable {s : State}

theorem exec_deploy_of_unbound (unbound : s.ss = .unbound) (slot : Nat) (bitstream : List Byte) (policy : Nat) :
    exec (.deploy slot bitstream policy) s = .next (deployEffect (tDeploy slot bitstream policy s.begin)) := by
  have arm : exec (.deploy slot bitstream policy) s = execDeploy slot bitstream policy s := rfl
  simp only [arm, execDeploy, unbound]

theorem exec_deploy_of_held (held : s.ss ≠ .unbound) (slot : Nat) (bitstream : List Byte) (policy : Nat) :
    exec (.deploy slot bitstream policy) s = .refused .deployNotUnbound := by
  have arm : exec (.deploy slot bitstream policy) s = execDeploy slot bitstream policy s := rfl
  cases h : s.ss with
  | unbound => exact absurd h held
  | deployed | configured => simp only [arm, execDeploy, h]

theorem exec_configure_of_unbound (unbound : s.ss = .unbound) (cfg : SequencerConfig) :
    exec (.configure cfg) s = .next (onlyReplied s (.err (.notReady .unbound))) := by
  have arm : exec (.configure cfg) s = configureWith params cfg s := rfl
  simp only [arm, configureWith, unbound, begin_fail_eq]

/-- R222: from Configured this is decision D11. -/
theorem exec_configure_of_held (held : s.ss ≠ .unbound) (cfg : SequencerConfig) :
    exec (.configure cfg) s = configureDevice params cfg s := by
  have arm : exec (.configure cfg) s = configureWith params cfg s := rfl
  cases h : s.ss with
  | unbound => exact absurd h held
  | deployed | configured => simp only [arm, configureWith, h, params, if_true]

theorem configureDevice_of_firstViolated {cfg : SequencerConfig} {f : Field} (first : FirstViolated cfg f) :
    configureDevice params cfg s = .next (onlyReplied s (.err (.validationError f))) := by
  simp only [configureDevice, cbuild_of_firstViolated first, begin_fail_eq]

theorem configureDevice_of_ok {p : Params} {cfg : SequencerConfig} {cw : ControlWordSet} {h : Handle}
    (built : cbuild p cfg = .ok cw) (live : s.handle = some h) :
    configureDevice p cfg s = .next (configureEffect cfg cw (writeAll h cw p.cfgWriteOrder s.begin)) := by
  simp only [configureDevice, built, live]

theorem configureDevice_of_noHandle {p : Params} {cfg : SequencerConfig} {cw : ControlWordSet}
    (built : cbuild p cfg = .ok cw) (dead : s.handle = none) : configureDevice p cfg s = .fault .noHandle := by
  simp only [configureDevice, built, dead]

theorem exec_enable (s : State) : exec .enable s = writeWord0 (clearDis s.w0c) s := rfl

theorem exec_disable (s : State) : exec .disable s = writeWord0 (setDis s.w0c) s := rfl

theorem writeWord0_of_notConfigured (early : s.ss ≠ .configured) (w : Word) :
    writeWord0 w s = .next (onlyReplied s (.err (.notReady s.ss))) := by
  cases h : s.ss with
  | configured => exact absurd h early
  | unbound | deployed => simp only [writeWord0, h, begin_fail_eq]

theorem writeWord0_of_handle {h : Handle} (ready : s.ss = .configured) (live : s.handle = some h) (w : Word) :
    writeWord0 w s = .next (word0Effect w (devWrite h 0 w s.begin)) := by
  simp only [writeWord0, ready, live]

theorem writeWord0_of_noHandle (ready : s.ss = .configured) (dead : s.handle = none) (w : Word) :
    writeWord0 w s = .fault .noHandle := by
  simp only [writeWord0, ready, dead]

theorem statusWith_of_unbound (unbound : s.ss = .unbound) (p : Params) :
    statusWith p s = .next (onlyReplied s (.ok .disconnected)) := by
  simp only [statusWith, unbound, pureAnswer_eq]

theorem statusWith_of_held (held : s.ss ≠ .unbound) (p : Params) : statusWith p s = statusDevice p s := by
  cases h : s.ss with
  | unbound => exact absurd h held
  | deployed | configured => simp only [statusWith, h]

theorem statusDevice_of_handle {h : Handle} (live : s.handle = some h) (p : Params) :
    statusDevice p s = .next (statusEffect (readAll h p.statusReadOrder #v[0, 0, 0, 0] s.begin)) := by
  simp only [statusDevice, live]

theorem statusDevice_of_noHandle (dead : s.handle = none) (p : Params) : statusDevice p s = .fault .noHandle := by
  simp only [statusDevice, dead]

theorem exec_status (s : State) : exec .status s = statusWith params s := rfl

theorem exec_release_of_unbound (unbound : s.ss = .unbound) :
    exec .release s = .next (onlyReplied s (.ok (.relinquished true))) := by
  have arm : exec .release s = execRelease s := rfl
  simp only [arm, execRelease, unbound, pureAnswer_eq]

theorem exec_release_of_held (held : s.ss ≠ .unbound) : exec .release s = releaseDevice s := by
  have arm : exec .release s = execRelease s := rfl
  cases h : s.ss with
  | unbound => exact absurd h held
  | deployed | configured => simp only [arm, execRelease, h]

theorem releaseDevice_of_handle {h : Handle} (live : s.handle = some h) :
    releaseDevice s = .next (releaseEffect (tRelease h s.begin)) := by
  simp only [releaseDevice, live]

theorem releaseDevice_of_noHandle (dead : s.handle = none) : releaseDevice s = .fault .noHandle := by
  simp only [releaseDevice, dead]

end Paths

end Sys2Proof.Machine

/-! Everything an operation can do: one relation between the state before and after, from which the rules of the whole
machine follow by cases. -/

namespace Sys2Proof.Machine

/-- The replies of the pure operations: an error is VENC's RangeError for its own operand or CBUILD's
ValidationError. -/
def PureReply (i : Instr) (r : Reply) : Prop :=
  ∀ e, r = .err e → (∃ v, i = .venc v ∧ e = .rangeError v) ∨ ∃ f, e = .validationError f

/-- ENABLE and DISABLE with the word they write (43_session_ops.md R223, R224). -/
def WritesWord0 (s : State) (i : Instr) (w : Word) : Prop :=
  i = .enable ∧ w = clearDis s.w0c ∨ i = .disable ∧ w = setDis s.w0c

/-- `OpStep s i t`: operation i, begun in s, can end in t, whatever the transport answers. One constructor for each way
an operation ends (43_session_ops.md R221 to R226). -/
inductive OpStep (s : State) : Instr → State → Prop where
  | pure {i : Instr} {r : Reply} : isPure i = true → PureReply i r → OpStep s i (onlyReplied s r)
  | deployed {slot policy : Nat} {bitstream : List Byte} {h : Handle} {dev : DeviceRegs} {draws : Nat} :
      s.ss = .unbound → OpStep s (.deploy slot bitstream policy)
        { s with ss := .deployed, handle := some h, cr := dev.cr, mr := dev.mr, deployAnswers := s.deployAnswers.tail
                 draws := draws, reply := some (.ok .nothing), calls := [.deploy slot bitstream policy] }
  | deployFailed {slot policy : Nat} {bitstream : List Byte} {e : OpError} {dev : DeviceRegs} {draws : Nat} :
      s.ss = .unbound → e = .deploymentError ∨ e = .transportTimeout → OpStep s (.deploy slot bitstream policy)
        { s with cr := dev.cr, mr := dev.mr, deployAnswers := s.deployAnswers.tail, draws := draws
                 reply := some (.err e), calls := [.deploy slot bitstream policy] }
  | configureRejected {cfg : SequencerConfig} {e : OpError} :
      e = .notReady .unbound ∨ (∃ f, e = .validationError f) →
      OpStep s (.configure cfg) (onlyReplied s (.err e))
  | configured {cfg : SequencerConfig} {h : Handle} {draws : Nat} :
      s.ss ≠ .unbound → s.handle = some h → ConfigValid cfg → OpStep s (.configure cfg)
        { s with ss := .configured, cfgLast := some cfg, w0c := (packWords params cfg)[0], cr := packWords params cfg
                 writeAnswers := s.writeAnswers.drop 9, draws := draws, reply := some (.ok .nothing)
                 calls := (List.finRange 9).map fun i => .write h i (packWords params cfg)[i] }
  | configureFailed {cfg : SequencerConfig} {h : Handle} {n draws : Nat} {timedOut : Bool} {cr : Vector Word 9} :
      s.ss ≠ .unbound → OpStep s (.configure cfg)
        { s with cr := cr, writeAnswers := s.writeAnswers.drop n, draws := draws
                 reply := some (.err (accessError timedOut))
                 calls := ((List.finRange 9).take n).map fun i => .write h i (packWords params cfg)[i] }
  | word0Rejected {i : Instr} {w : Word} : WritesWord0 s i w → s.ss ≠ .configured →
      OpStep s i (onlyReplied s (.err (.notReady s.ss)))
  | word0Written {i : Instr} {w : Word} {h : Handle} {draws : Nat} : WritesWord0 s i w → s.ss = .configured →
      OpStep s i
        { s with w0c := w, cr := s.cr.set 0 w, writeAnswers := s.writeAnswers.tail, draws := draws
                 reply := some (.ok .nothing), calls := [.write h 0 w] }
  | word0Failed {i : Instr} {w : Word} {h : Handle} {draws : Nat} {timedOut landed : Bool} :
      WritesWord0 s i w → s.ss = .configured → OpStep s i
        { s with cr := if landed then s.cr.set 0 w else s.cr, writeAnswers := s.writeAnswers.tail, draws := draws
                 reply := some (.err (accessError timedOut)), calls := [.write h 0 w] }
  | disconnected : s.ss = .unbound → OpStep s .status (onlyReplied s (.ok .disconnected))
  | statusEnded {h : Handle} {r : Reply} {n draws : Nat} {mr : Vector Word 4} :
      s.ss ≠ .unbound → (∃ m, r = .ok (.snapshot m)) ∨ (∃ timedOut, r = .err (accessError timedOut)) →
      OpStep s .status
        { s with mr := mr, readAnswers := s.readAnswers.drop n, draws := draws, reply := some r
                 calls := ((List.finRange 4).take n).map fun j => .read h j }
  | releasedUnbound : s.ss = .unbound → OpStep s .release (onlyReplied s (.ok (.relinquished true)))
  | released {h : Handle} {b : Bool} {w : Word} {dev : DeviceRegs} {draws : Nat} :
      s.ss ≠ .unbound → OpStep s .release
        { s with ss := .unbound, handle := none, cfgLast := none, w0c := w, cr := dev.cr, mr := dev.mr
                 releaseAnswers := s.releaseAnswers.tail, draws := draws
                 reply := some (.ok (.relinquished b)), calls := [.release h] }

/-- What the outcome of operation i in state s can be: a next state of `OpStep`, the fault of a call without a handle
(log entry 11), or DEPLOY's refusal (decision D10). -/
def OutcomeAllowed (i : Instr) (s : State) : Host.Outcome State Fault Refusal → Prop
  | .next t => OpStep s i t
  | .fault _ => s.ss ≠ .unbound ∧ s.handle = none
  | .refused r =>
    (∃ slot bitstream policy, i = .deploy slot bitstream policy) ∧ s.ss ≠ .unbound ∧ r = .deployNotUnbound

/-- R261: VENC's one error carries its operand. -/
theorem venc_of_not_mem_range (p : Params) {v : Volt} (outside : ¬ (-5 ≤ v ∧ v ≤ 5)) :
    venc p v = .error (.rangeError v) :=
  if_neg (mt (inVoltRange_iff v).1 outside)

theorem exec_venc_of_not_mem_range {v : Volt} (outside : ¬ (-5 ≤ v ∧ v ≤ 5)) (s : State) :
    exec (.venc v) s = .next (onlyReplied s (.err (.rangeError v))) := by
  have arm : exec (.venc v) s = execVenc v s := rfl
  simp only [arm, execVenc, venc_of_not_mem_range params outside, begin_fail_eq]

theorem pureReply_ok (i : Instr) (r : Result) : PureReply i (.ok r) := fun _ h => nomatch h

/-- R13: a pure operation returns one outcome in every state, and only the port changes. -/
theorem exec_of_isPure {i : Instr} (pure : isPure i = true) :
    ∃ r, PureReply i r ∧ ∀ s, exec i s = .next (onlyReplied s r) := by
  cases i with
  | venc v =>
    by_cases inside : -5 ≤ v ∧ v ≤ 5
    · exact ⟨_, pureReply_ok _ _, exec_venc_of_venc_ok (venc_of_mem_range params inside.1 inside.2)⟩
    · exact ⟨_, fun _ h => .inl ⟨v, rfl, by cases h; rfl⟩, exec_venc_of_not_mem_range inside⟩
  | cbuild cfg =>
    rcases cbuild_cases cfg with ⟨-, built⟩ | ⟨f, -, rejected⟩
    · exact ⟨_, pureReply_ok _ _, exec_cbuild_of_ok built⟩
    · exact ⟨_, fun _ h => .inr ⟨f, by cases h; rfl⟩, exec_cbuild_of_error rejected⟩
  | vdec c => exact ⟨_, pureReply_ok _ _, exec_vdec c⟩
  | pack0 e d => exact ⟨_, pureReply_ok _ _, exec_pack0 e d⟩
  | packd d => exact ⟨_, pureReply_ok _ _, exec_packd d⟩
  | packv c => exact ⟨_, pureReply_ok _ _, exec_packv c⟩
  | w0en w => exact ⟨_, pureReply_ok _ _, exec_w0en w⟩
  | w0dis w => exact ⟨_, pureReply_ok _ _, exec_w0dis w⟩
  | xdac w => exact ⟨_, pureReply_ok _ _, exec_xdac w⟩
  | xsticky w => exact ⟨_, pureReply_ok _ _, exec_xsticky w⟩
  | xstate w => exact ⟨_, pureReply_ok _ _, exec_xstate w⟩
  | xdiv w => exact ⟨_, pureReply_ok _ _, exec_xdiv w⟩
  | sdec raw => exact ⟨_, pureReply_ok _ _, exec_sdec raw⟩
  | ohenc n => exact ⟨_, pureReply_ok _ _, fun _ => rfl⟩
  | deploy | configure | enable | disable | status | release => cases pure

theorem deploy_allowed (slot : Nat) (bitstream : List Byte) (policy : Nat) (s : State) :
    OutcomeAllowed (.deploy slot bitstream policy) s (exec (.deploy slot bitstream policy) s) := by
  by_cases unbound : s.ss = .unbound
  · rw [exec_deploy_of_unbound unbound]
    have spec := tDeploy_spec slot bitstream policy s.begin
    generalize tDeploy slot bitstream policy s.begin = call at spec ⊢
    obtain ⟨answer, t⟩ := call
    dsimp only at spec
    rw [spec]
    cases answer with
    | ok h dev => exact .deployed unbound
    | fail dev => exact .deployFailed unbound (.inl rfl)
    | tout dev => exact .deployFailed unbound (.inr rfl)
  · rw [exec_deploy_of_held unbound]
    exact ⟨⟨_, _, _, rfl⟩, unbound, rfl⟩

theorem configure_allowed (cfg : SequencerConfig) (s : State) :
    OutcomeAllowed (.configure cfg) s (exec (.configure cfg) s) := by
  by_cases unbound : s.ss = .unbound
  · rw [exec_configure_of_unbound unbound]
    exact .configureRejected (.inl rfl)
  rw [exec_configure_of_held unbound]
  rcases cbuild_cases cfg with ⟨valid, built⟩ | ⟨f, first, -⟩
  · cases live : s.handle with
    | none =>
      rw [configureDevice_of_noHandle built live]
      exact ⟨unbound, live⟩
    | some h =>
      rw [configureDevice_of_ok built live]
      obtain ⟨n, -, spec, -, result⟩ := writeAll_spec h (packWords params cfg) params.cfgWriteOrder s.begin
      generalize writeAll h (packWords params cfg) params.cfgWriteOrder s.begin = writes at spec result ⊢
      obtain ⟨error, t⟩ := writes
      dsimp only at spec result
      rcases result with ⟨rfl, rfl, landed⟩ | rfl | rfl
      · have all : t.cr = packWords params cfg := Vector.ext fun j below =>
          landed ⟨j, below⟩ (List.mem_finRange (⟨j, below⟩ : Fin 9))
        rw [all] at spec
        rw [spec]
        exact .configured unbound live valid
      · rw [spec]
        exact .configureFailed (timedOut := false) unbound
      · rw [spec]
        exact .configureFailed (timedOut := true) unbound
  · rw [configureDevice_of_firstViolated first]
    exact .configureRejected (.inr ⟨f, rfl⟩)

theorem writeWord0_allowed {s : State} {i : Instr} {w : Word} (writes : WritesWord0 s i w) :
    OutcomeAllowed i s (writeWord0 w s) := by
  by_cases ready : s.ss = .configured
  · cases live : s.handle with
    | none =>
      rw [writeWord0_of_noHandle ready live]
      exact ⟨by simp [ready], live⟩
    | some h =>
      rw [writeWord0_of_handle ready live]
      obtain ⟨landed, spec, result⟩ := devWrite_spec h 0 w s.begin
      generalize devWrite h 0 w s.begin = write at spec result ⊢
      obtain ⟨error, t⟩ := write
      dsimp only at spec result
      rw [spec]
      rcases result with ⟨rfl, rfl⟩ | rfl | rfl
      · exact .word0Written writes ready
      · exact .word0Failed (timedOut := false) writes ready
      · exact .word0Failed (timedOut := true) writes ready
  · rw [writeWord0_of_notConfigured ready]
    exact .word0Rejected writes ready

theorem status_allowed (s : State) : OutcomeAllowed .status s (exec .status s) := by
  rw [exec_status]
  by_cases unbound : s.ss = .unbound
  · rw [statusWith_of_unbound unbound]
    exact .disconnected unbound
  rw [statusWith_of_held unbound]
  cases live : s.handle with
  | none =>
    rw [statusDevice_of_noHandle live]
    exact ⟨unbound, live⟩
  | some h =>
    rw [statusDevice_of_handle live]
    obtain ⟨n, -, spec, result⟩ := readAll_spec h params.statusReadOrder #v[0, 0, 0, 0] s.begin
    generalize readAll h params.statusReadOrder #v[0, 0, 0, 0] s.begin = reads at spec result ⊢
    obtain ⟨answer, t⟩ := reads
    dsimp only at spec result
    rw [spec]
    rcases result with ⟨⟨raw, rfl⟩, -⟩ | rfl | rfl
    · exact .statusEnded unbound (.inl ⟨_, rfl⟩)
    · exact .statusEnded unbound (.inr ⟨false, rfl⟩)
    · exact .statusEnded unbound (.inr ⟨true, rfl⟩)

theorem release_allowed (s : State) : OutcomeAllowed .release s (exec .release s) := by
  by_cases unbound : s.ss = .unbound
  · rw [exec_release_of_unbound unbound]
    exact .releasedUnbound unbound
  rw [exec_release_of_held unbound]
  cases live : s.handle with
  | none =>
    rw [releaseDevice_of_noHandle live]
    exact ⟨unbound, live⟩
  | some h =>
    rw [releaseDevice_of_handle live]
    have spec := tRelease_spec h s.begin
    generalize tRelease h s.begin = call at spec ⊢
    obtain ⟨answer, t⟩ := call
    dsimp only at spec
    rw [spec]
    exact .released unbound

/-- What every operation can do, in every state. -/
theorem exec_allowed (i : Instr) (s : State) : OutcomeAllowed i s (exec i s) := by
  by_cases pure : isPure i = true
  · obtain ⟨r, reply, run⟩ := exec_of_isPure pure
    rw [run s]
    exact .pure pure reply
  · cases i with
    | deploy slot bitstream policy => exact deploy_allowed slot bitstream policy s
    | configure cfg => exact configure_allowed cfg s
    | enable => exact writeWord0_allowed (.inl ⟨rfl, rfl⟩)
    | disable => exact writeWord0_allowed (.inr ⟨rfl, rfl⟩)
    | status => exact status_allowed s
    | release => exact release_allowed s
    | _ => exact absurd rfl pure

theorem opStep_of_exec {i : Instr} {s t : State} (run : exec i s = .next t) : OpStep s i t := by
  have allowed := exec_allowed i s
  rwa [run] at allowed

end Sys2Proof.Machine

/-! The block invariant (10_state.md R24): every operation, every step and every run keeps it. -/

namespace Sys2Proof.Machine

/-- The invariant speaks of the block's four elements alone. -/
theorem BlockInv.of_sameBlock {s t : State} (inv : BlockInv s) (same : SameBlock s t) : BlockInv t := by
  obtain ⟨ss, handle, cfgLast, w0c⟩ := same
  obtain ⟨handlePresent, cfgPresent, w0cBits, w0cDiv, cfgValid⟩ := inv
  constructor
  · rwa [ss, handle]
  · rwa [ss, cfgLast]
  · rwa [ss, w0c]
  · rwa [ss, w0c, cfgLast]
  · rwa [cfgLast]

/-- R24 (c), (d): ENABLE and DISABLE write W0C with bits 30:0 as they were. -/
theorem WritesWord0.keeps {s : State} {i : Instr} {w : Word} (writes : WritesWord0 s i w) :
    w &&& 0x7FFFFF00 = s.w0c &&& 0x7FFFFF00 ∧ w.extractLsb' 0 8 = s.w0c.extractLsb' 0 8 := by
  rcases writes with ⟨-, rfl⟩ | ⟨-, rfl⟩
  · exact ⟨clearDis_format _, clearDis_divider _⟩
  · exact ⟨setDis_format _, setDis_divider _⟩

/-- R24 (d): word 0 of a valid config holds the config's divider. -/
theorem packWords_divider {cfg : SequencerConfig} (valid : ConfigValid cfg) :
    (packWords params cfg)[0].extractLsb' 0 8 = BitVec.ofInt 8 cfg.div := by
  have word0 : (packWords params cfg)[0] = pack0 cfg.enable cfg.div.toNat := rfl
  rw [word0, pack0_divider, ← BitVec.ofInt_natCast, Int.toNat_of_nonneg (valid .div).1]

/-- The cases that matter are the four successes that write the block's state: each sets SS, HANDLE and CFG_LAST
together, and the word it keeps in W0C is CFG_LAST's word 0 up to bit 31. -/
theorem OpStep.keeps_blockInv {s t : State} {i : Instr} (step : OpStep s i t) (inv : BlockInv s) : BlockInv t := by
  cases step with
  | pure | deployFailed | configureRejected | configureFailed | word0Rejected | word0Failed | disconnected
  | statusEnded | releasedUnbound => exact inv.of_sameBlock ⟨rfl, rfl, rfl, rfl⟩
  | deployed unbound =>
    have noCfg : s.cfgLast = none := by simpa [unbound] using inv.cfgPresent
    exact ⟨by simp, by simp [noCfg], by simp, by simp, by simp [noCfg]⟩
  | configured _ live valid =>
    refine ⟨by simp [live], by simp, fun _ => pack0_format _ _, fun _ cfg same => ?_, fun cfg same => ?_⟩
    · cases same
      exact packWords_divider valid
    · cases same
      exact (validConfig_iff _).2 valid
  | word0Written writes ready =>
    obtain ⟨format, divider⟩ := writes.keeps
    exact ⟨inv.handlePresent, inv.cfgPresent, fun _ => format.trans (inv.w0cBits ready),
      fun _ cfg same => divider.trans (inv.w0cDiv ready cfg same), inv.cfgValid⟩
  | released => exact ⟨by simp, by simp, by simp, by simp, by simp⟩

/-- What a step that answers next did: nothing, with nothing requested, or the operation the oldest request decodes
to. -/
theorem step_next_cases {s t : State} (run : step s = .next t) :
    t = s ∨ ∃ i rest, OpStep { s with pending := rest } i t := by
  unfold step runPending at run
  split at run
  · exact .inl (Host.Outcome.next.inj run).symm
  next r rest _ =>
    split at run
    next i _ => exact .inr ⟨i, rest, opStep_of_exec run⟩
    next => cases run

theorem step_keeps_blockInv {s t : State} (inv : BlockInv s) (run : step s = .next t) : BlockInv t := by
  rcases step_next_cases run with rfl | ⟨i, rest, op⟩
  · exact inv
  · exact op.keeps_blockInv (inv.of_sameBlock ⟨rfl, rfl, rfl, rfl⟩)

/-- Settles O8: the operation a step runs keeps the invariant, which taking its request from the queue does not
touch. -/
theorem everyStepKeepsTheBlockInvariant : Obligations.EveryStepKeepsTheBlockInvariant :=
  fun _ _ inv run => step_keeps_blockInv inv run

/-- Settles O7: power-up is Unbound with no handle and no configuration. -/
theorem resetMeetsTheBlockInvariant : Obligations.ResetMeetsTheBlockInvariant :=
  ⟨by decide, by decide, nofun, nofun, nofun⟩

/-- Settles O9: by induction on the run; what the outside world supplies or moves is not the block's state. -/
theorem reachableStatesMeetTheBlockInvariant : Obligations.ReachableStatesMeetTheBlockInvariant := by
  intro s reach
  induction reach with
  | reset => exact resetMeetsTheBlockInvariant
  | step _ run inv => exact step_keeps_blockInv inv run
  | supply _ _ _ _ _ _ inv => exact inv.of_sameBlock ⟨rfl, rfl, rfl, rfl⟩
  | deviceMoves _ _ inv => exact inv.of_sameBlock ⟨rfl, rfl, rfl, rfl⟩
  | unheldDeviceMoves _ _ _ inv => exact inv.of_sameBlock ⟨rfl, rfl, rfl, rfl⟩

/-- R24 (a): under the invariant every state that admits a call has a handle, so the one fault cannot occur. -/
theorem exec_ne_fault {s : State} (inv : BlockInv s) (i : Instr) (f : Fault) : exec i s ≠ .fault f := by
  intro run
  have allowed := exec_allowed i s
  rw [run] at allowed
  obtain ⟨held, dead⟩ := allowed
  simpa [dead] using inv.handlePresent.2 held

/-- Settles O10: a step faults only where the operation it runs does. -/
theorem noStepFaultsUnderTheBlockInvariant : Obligations.NoStepFaultsUnderTheBlockInvariant := by
  intro s f inv run
  unfold step runPending at run
  split at run
  · cases run
  next r rest _ =>
    split at run
    next i _ =>
      have queued : BlockInv { s with pending := rest } := inv.of_sameBlock ⟨rfl, rfl, rfl, rfl⟩
      exact exec_ne_fault queued i f run
    next => cases run

/-- Settles O11: only DEPLOY's path outside Unbound ends in a refusal. -/
theorem onlyDeployOutsideUnboundIsRefused : Obligations.OnlyDeployOutsideUnboundIsRefused := by
  intro i s r
  constructor
  · intro run
    have allowed := exec_allowed i s
    rwa [run] at allowed
  · rintro ⟨⟨slot, bitstream, policy, rfl⟩, held, rfl⟩
    exact exec_deploy_of_held held slot bitstream policy

/-- R315: neither a fault nor a refusal is left where the invariant holds and the operation is admitted. -/
theorem exec_next_of_blockInv {s : State} (inv : BlockInv s) {i : Instr}
    (admitted : (∀ slot bitstream policy, i ≠ .deploy slot bitstream policy) ∨ s.ss = .unbound) :
    ∃ t, exec i s = .next t := by
  cases run : exec i s with
  | next t => exact ⟨t, rfl⟩
  | fault f => exact absurd run (exec_ne_fault inv i f)
  | refused r =>
    obtain ⟨⟨slot, bitstream, policy, isDeploy⟩, held, -⟩ := (onlyDeployOutsideUnboundIsRefused i s r).1 run
    rcases admitted with other | unbound
    · exact absurd isDeploy (other slot bitstream policy)
    · exact absurd unbound held

/-- Settles O58: under the invariant an admitted operation ends in neither a fault nor a refusal. -/
theorem sessionOperationsAlwaysReturn : Obligations.SessionOperationsAlwaysReturn := fun _ _ inv =>
  ⟨exec_next_of_blockInv inv (.inl nofun), exec_next_of_blockInv inv (.inl nofun),
    exec_next_of_blockInv inv (.inl nofun), exec_next_of_blockInv inv (.inl nofun),
    exec_next_of_blockInv inv (.inl nofun), fun unbound _ _ _ => exec_next_of_blockInv inv (.inr unbound)⟩

/-- Settles O6: RELEASE ends Unbound with nothing held, or was Unbound already, where the invariant says the same. -/
theorem resetAndReleaseLeaveTheBlockUnbound : Obligations.ResetAndReleaseLeaveTheBlockUnbound := by
  refine ⟨⟨rfl, rfl, rfl⟩, fun s t inv run => ?_⟩
  cases opStep_of_exec run with
  | pure pure _ => cases pure
  | word0Rejected writes _ | word0Written writes _ | word0Failed writes _ => simp [WritesWord0] at writes
  | releasedUnbound unbound =>
    have dead : s.handle = none := by simpa [unbound] using inv.handlePresent
    have noCfg : s.cfgLast = none := by simpa [unbound] using inv.cfgPresent
    exact ⟨unbound, dead, noCfg⟩
  | released _ => exact ⟨rfl, rfl, rfl⟩

end Sys2Proof.Machine

/-! The rules of the whole machine (20_memory.md section 3, 43_session_ops.md sections 1 to 3, 60_exceptions.md), read
off the ways an operation can end. -/

namespace Sys2Proof.Machine

/-- Settles O12: the ways an operation ends with an error all leave the block's four elements alone. -/
theorem failedOperationsKeepTheBlockState : Obligations.FailedOperationsKeepTheBlockState := by
  intro i s t run failed
  cases opStep_of_exec run with
  | pure | deployFailed | configureRejected | configureFailed | word0Rejected | word0Failed | disconnected
  | statusEnded | releasedUnbound => exact ⟨rfl, rfl, rfl, rfl⟩
  | deployed | configured | word0Written | released =>
    obtain ⟨e, isErr⟩ := failed
    cases isErr

/-- Settles O13: each pure operation returns its one outcome. -/
theorem pureOperationsReadAndWriteNoState : Obligations.PureOperationsReadAndWriteNoState := by
  intro i pure
  obtain ⟨r, -, run⟩ := exec_of_isPure pure
  exact ⟨r, run⟩

/-- Settles O14: SS is written by the three successes of the table alone; a CONFIGURE from Configured does not move
it. -/
theorem sessionStateMovesOnlyByTheTable : Obligations.SessionStateMovesOnlyByTheTable := by
  intro i s t run moved
  cases opStep_of_exec run with
  | pure | deployFailed | configureRejected | configureFailed | word0Rejected | word0Written | word0Failed
  | disconnected | statusEnded | releasedUnbound => exact absurd rfl moved
  | deployed unbound => exact .inl ⟨unbound, rfl, _, _, _, rfl⟩
  | configured held =>
    cases h : s.ss with
    | unbound => exact absurd h held
    | deployed => exact .inr (.inl ⟨rfl, rfl, _, rfl⟩)
    | configured => exact absurd h.symm moved
  | released held => exact .inr (.inr ⟨held, rfl, rfl⟩)

/-- DevWrite of word 0 leaves the other control registers alone (20_memory.md R60). -/
theorem getElem_set_zero_of_ne (cr : Vector Word 9) (w : Word) {j : Fin 9} (other : j ≠ 0) :
    (cr.set 0 w)[j.val] = cr[j.val] :=
  Vector.getElem_set_ne _ _ fun zero => other (Fin.ext zero.symm)

/-- Settles O15: each way an operation ends writes down its targets; the rest is unchanged by definition. -/
theorem sessionOperationsChangeOnlyTheirTargets : Obligations.SessionOperationsChangeOnlyTheirTargets := by
  intro i s t run
  cases opStep_of_exec run with
  | pure | configureRejected | word0Rejected | disconnected | releasedUnbound =>
    refine ⟨rfl, ?_, ?_, ?_, ?_, ?_, ?_, ?_, ?_, ?_⟩ <;> intros <;> rfl
  | deployed | deployFailed | configured | configureFailed => simp
  | statusEnded held _ => simp [held]
  | released held => simp [held]
  | word0Written writes _ =>
    rcases writes with ⟨rfl, -⟩ | ⟨rfl, -⟩ <;> simp +contextual [getElem_set_zero_of_ne]
  | @word0Failed _ _ _ _ _ landed writes _ =>
    rcases writes with ⟨rfl, -⟩ | ⟨rfl, -⟩ <;> cases landed <;> simp +contextual [getElem_set_zero_of_ne]

section Calls

variable {α : Type} {t : State} {xs : List α}

theorem writesOf_of_writes {h : Handle} {f : α → Fin 9} {g : α → Word}
    (issued : t.calls = xs.map fun x => .write h (f x) (g x)) : writesOf t = xs.map fun x => (f x, g x) := by
  simp [writesOf, issued, List.filterMap_map]

theorem readsOf_of_writes {h : Handle} {f : α → Fin 9} {g : α → Word}
    (issued : t.calls = xs.map fun x => .write h (f x) (g x)) : readsOf t = [] := by
  simp [readsOf, issued, List.filterMap_map]

theorem readsOf_of_reads {h : Handle} {f : α → Fin 4} (issued : t.calls = xs.map fun x => .read h (f x)) :
    readsOf t = xs.map f := by
  simp [readsOf, issued, List.filterMap_map]

theorem writesOf_of_reads {h : Handle} {f : α → Fin 4} (issued : t.calls = xs.map fun x => .read h (f x)) :
    writesOf t = [] := by
  simp [writesOf, issued, List.filterMap_map]

end Calls

/-- Settles O18: the calls of each way an operation ends, with the writes and the reads among them. -/
theorem deviceAccessesOfEachOperation : Obligations.DeviceAccessesOfEachOperation := by
  intro i s t run
  cases opStep_of_exec run with
  | pure pure _ =>
    have noCall : i ≠ .enable ∧ i ≠ .disable ∧ (∀ cfg, i ≠ .configure cfg) := by
      refine ⟨?_, ?_, fun cfg => ?_⟩ <;> rintro rfl <;> cases pure
    simp [onlyReplied, writesOf, readsOf, noCall]
  | configureRejected | disconnected | releasedUnbound => simp [onlyReplied, writesOf, readsOf, isPure]
  | word0Rejected writes early =>
    rcases writes with ⟨rfl, -⟩ | ⟨rfl, -⟩ <;> simp [onlyReplied, writesOf, readsOf, isPure, early]
  | deployed | deployFailed => simp [writesOf, readsOf, isPure]
  | released held => simp [writesOf, readsOf, isPure, held]
  | word0Written writes ready | word0Failed writes ready =>
    rcases writes with ⟨rfl, -⟩ | ⟨rfl, -⟩ <;> simp [writesOf, readsOf, isPure, ready]
  | configured held | configureFailed held =>
    refine ⟨by simp [isPure], by simp [held], by simp, fun _ => readsOf_of_writes rfl, by simp, fun _ => ?_, by simp⟩
    rw [writesOf_of_writes rfl, List.map_map]
    simp [Function.comp_def, List.take_prefix]
  | statusEnded held _ =>
    refine ⟨by simp [isPure], by simp [held], fun _ _ _ => writesOf_of_reads rfl, by simp, by simp, by simp,
      fun _ => ?_⟩
    rw [readsOf_of_reads rfl]
    simp [List.take_prefix]

/-- Settles O19: CONFIGURE writes packed words; ENABLE and DISABLE write W0C's bits 30:8, which the invariant keeps
zero. -/
theorem everyWrittenWordHasItsSlotFormat : Obligations.EveryWrittenWordHasItsSlotFormat := by
  intro i s t inv run
  cases opStep_of_exec run with
  | pure | configureRejected | disconnected | releasedUnbound | word0Rejected | deployed | deployFailed | released =>
    nofun
  | statusEnded => rw [writesOf_of_reads rfl]; nofun
  | configured =>
    rw [writesOf_of_writes rfl, List.forall_mem_map]
    exact fun i _ => packWords_slotFormat params _ i
  | configureFailed =>
    rw [writesOf_of_writes rfl, List.forall_mem_map]
    exact fun i _ => packWords_slotFormat params _ i
  | word0Written writes ready | word0Failed writes ready =>
    obtain ⟨format, -⟩ := writes.keeps
    exact List.forall_mem_singleton.2 (format.trans (inv.w0cBits ready))

/-- Settles O20: the errors of each way an operation ends; RangeError is among VENC's alone. -/
theorem rangeErrorOnlyFromVencNotFoundFromNone : Obligations.RangeErrorOnlyFromVencNotFoundFromNone := by
  intro i s t run
  have noAccessError : ∀ timedOut, accessError timedOut ≠ .notFoundError ∧ ∀ v, accessError timedOut ≠ .rangeError v :=
    fun timedOut => by cases timedOut <;> exact ⟨nofun, nofun⟩
  cases opStep_of_exec run with
  | pure _ reply =>
    refine ⟨fun isErr => ?_, fun v isErr => ?_⟩
    · rcases reply _ (Option.some.inj isErr) with ⟨v, -, range⟩ | ⟨f, validation⟩
      · cases range
      · cases validation
    · rcases reply _ (Option.some.inj isErr) with ⟨v, rfl, range⟩ | ⟨f, validation⟩
      · cases range; rfl
      · cases validation
  | deployed | configured | word0Written | disconnected | releasedUnbound | released => simp [onlyReplied]
  | deployFailed _ kind => rcases kind with rfl | rfl <;> simp
  | configureRejected kind => rcases kind with rfl | ⟨f, rfl⟩ <;> simp [onlyReplied]
  | word0Rejected => simp [onlyReplied]
  | configureFailed | word0Failed => simp [noAccessError]
  | statusEnded _ kind => rcases kind with ⟨m, rfl⟩ | ⟨timedOut, rfl⟩ <;> simp [noAccessError]

/-- Settles O21: the word kept in W0C by a success is the word that landed in CR[0]. -/
theorem successfulWritesRestoreAgreement : Obligations.SuccessfulWritesRestoreAgreement := by
  intro i s t writer run ok
  cases opStep_of_exec run with
  | configured | word0Written => simp [Agrees]
  | configureRejected | configureFailed | word0Rejected | word0Failed =>
    obtain ⟨r, isOk⟩ := ok
    cases isOk
  | pure pure _ => rcases writer with ⟨cfg, rfl⟩ | rfl | rfl <;> cases pure
  | deployed | deployFailed | disconnected | statusEnded | releasedUnbound | released => simp at writer

/-- Configured and disabled with divider 0, in agreement, the next write failing after it has landed. -/
def failingEnableState : State :=
  { State.reset with ss := .configured, handle := some ⟨0⟩, cfgLast := some zeroConfig, w0c := 0x80000000
                     cr := #v[0x80000000, 0, 0, 0, 0, 0, 0, 0, 0], writeAnswers := [.terr true] }

theorem zeroConfig_valid : ConfigValid zeroConfig := by
  intro f
  cases f with
  | delay k => fin_cases k <;> exact ⟨by decide, by decide⟩
  | volt k => fin_cases k <;> exact ⟨by norm_num [zeroConfig], by norm_num [zeroConfig]⟩
  | div => exact ⟨by decide, by decide⟩

theorem failingEnableState_inv : BlockInv failingEnableState where
  handlePresent := by decide
  cfgPresent := by decide
  w0cBits := fun _ => rfl
  w0cDiv := fun _ _ same => by cases same; rfl
  cfgValid := fun _ same => by cases same; exact (validConfig_iff _).2 zeroConfig_valid

/-- Settles O22: the landed word 0 enables, the block keeps its disabled copy. -/
theorem failedEnableCanBreakAgreement : Obligations.FailedEnableCanBreakAgreement :=
  ⟨failingEnableState, _, failingEnableState_inv, rfl, rfl, ⟨_, rfl⟩, by rw [Agrees]; decide⟩

/-- Table S leaves exactly R97's twelve selectors without a reader: checked over the 32 selectors. -/
theorem operandReader_isNone_iff : ∀ sel : Selector, (operandReader sel).isNone = true ↔
    sel ∈ ([0b00010, 0b00011, 0b00100, 0b00101, 0b00110, 0b00111, 0b01110, 0b01111,
            0b10110, 0b10111, 0b11110, 0b11111] : List Selector) := by
  decide

theorem decode_unassigned_iff (r : Request) :
    decode r = .error .unassignedSelector ↔ (operandReader r.sel).isNone = true := by
  unfold decode
  cases operandReader r.sel with
  | none => simp
  | some read =>
    dsimp only
    cases read r.operands <;> simp

/-- A step is refused as unassigned exactly when its request's selector has no reader: no operation has that refusal. -/
theorem step_refused_unassigned_iff {s : State} {r : Request} {rest : List Request} (next : s.pending = r :: rest) :
    step s = .refused (.unassignedSelector r.sel) ↔ (operandReader r.sel).isNone = true := by
  rw [← decode_unassigned_iff]
  simp only [step, runPending, next]
  cases decode r with
  | error why => cases why <;> simp [refusalOf]
  | ok i => simp [onlyDeployOutsideUnboundIsRefused i]

/-- Settles O4: the selectors without a reader are the twelve. -/
theorem exactlyTwelveSelectorsAreRefused : Obligations.ExactlyTwelveSelectorsAreRefused :=
  fun _ r _ next => (step_refused_unassigned_iff next).trans (operandReader_isNone_iff r.sel)

theorem step_of_decode {s : State} {r : Request} {rest : List Request} {i : Instr} (next : s.pending = r :: rest)
    (decoded : decode r = .ok i) : step s = exec i { s with pending := rest } := by
  simp only [step, runPending, next, decoded]

theorem decode_of_decodeTableWord {nbits w : Nat} {i : Instr} (table : decodeTableWord nbits w = some i) :
    decode (tableRequest nbits w) = .ok i := by
  unfold decodeTableWord at table
  split at table
  · next decoded => rw [decoded, Option.some.inj table]
  · cases table

/-- Settles O5: a table word is placed as the request whose decoding it names, in front of a queue the step restores. -/
theorem stepRunsTheDecodedRequest : Obligations.StepRunsTheDecodedRequest :=
  ⟨fun _ _ _ _ next decoded => step_of_decode next decoded,
    fun s empty => by simp only [step, runPending, empty],
    fun _ _ _ _ table => step_of_decode rfl (decode_of_decodeTableWord table)⟩

end Sys2Proof.Machine

/-! CONFIGURE's writes and STATUS's reads when the transport's coming answers are known (20_memory.md R60, R61). -/

namespace Sys2Proof.Machine

/-- The vector with the places of a list filled in the list's order. -/
def setAll {n : Nat} (f : Fin n → Word) (order : List (Fin n)) (v : Vector Word n) : Vector Word n :=
  order.foldl (fun (v : Vector Word n) (i : Fin n) => v.set i (f i)) v

theorem setAll_getElem {n : Nat} (f : Fin n → Word) (order : List (Fin n)) (v : Vector Word n) (j : Fin n) :
    (setAll f order v)[j] = if j ∈ order then f j else v[j] := by
  induction order generalizing v with
  | nil => rfl
  | cons i rest ih =>
    have tail : setAll f (i :: rest) v = setAll f rest (v.set i (f i)) := rfl
    rw [tail, ih]
    by_cases later : j ∈ rest
    · simp [later]
    · by_cases here : j = i
      · subst here; simp [later]
      · have apart : (i : Nat) ≠ j := fun same => here (Fin.ext same.symm)
        simp [later, here, apart]

/-- Once every place has been filled, the old values are gone, whatever the order (70_reset_and_hazards.md R305). -/
theorem setAll_getElem_of_perm {n : Nat} {order : List (Fin n)} (all : order.Perm (List.finRange n))
    (f : Fin n → Word) (v : Vector Word n) (j : Fin n) : (setAll f order v)[j] = f j := by
  rw [setAll_getElem, if_pos (all.mem_iff.2 (List.mem_finRange j))]

/-- The control registers after the writes of a list have landed in its order. -/
abbrev landWords (cw : ControlWordSet) (order : List (Fin 9)) (cr : Vector Word 9) : Vector Word 9 :=
  setAll (fun i => cw[i]) order cr

theorem landWords_eq_of_perm {order : List (Fin 9)} (all : order.Perm (List.finRange 9)) (cw : ControlWordSet)
    (cr : Vector Word 9) : landWords cw order cr = cw :=
  Vector.ext fun j below => setAll_getElem_of_perm all (fun i => cw[i]) cr ⟨j, below⟩

/-- Writes that succeed land one after another, and the writes after them go on from there. -/
theorem writeAll_append_of_ok (h : Handle) (cw : ControlWordSet) (before after : List (Fin 9)) (s : State)
    (rest : List WriteAnswer) (answers : s.writeAnswers = List.replicate before.length .ok ++ rest) :
    writeAll h cw (before ++ after) s =
      writeAll h cw after { s with cr := landWords cw before s.cr, writeAnswers := rest
                                   calls := s.calls ++ before.map fun i => .write h i cw[i] } := by
  induction before generalizing s with
  | nil =>
    obtain rfl : s.writeAnswers = rest := answers
    simp [landWords, setAll]
  | cons i before ih =>
    have step := devWrite_ok h i cw[i] s _ answers
    rw [List.cons_append, writeAll, step]
    dsimp only
    rw [ih _ rfl, List.append_assoc]
    rfl

theorem writeAll_of_ok (h : Handle) (cw : ControlWordSet) (order : List (Fin 9)) (s : State)
    (rest : List WriteAnswer) (answers : s.writeAnswers = List.replicate order.length .ok ++ rest) :
    writeAll h cw order s =
      (none, { s with cr := landWords cw order s.cr, writeAnswers := rest
                      calls := s.calls ++ order.map fun i => .write h i cw[i] }) := by
  have whole := writeAll_append_of_ok h cw order [] s rest answers
  rwa [List.append_nil] at whole

/-- The first write that fails is the last one issued. -/
theorem writeAll_of_failed (h : Handle) (cw : ControlWordSet) (before after : List (Fin 9)) (i : Fin 9) (s : State)
    (timedOut landed : Bool) (rest : List WriteAnswer)
    (answers : s.writeAnswers = List.replicate before.length .ok ++ failedWrite timedOut landed :: rest) :
    writeAll h cw (before ++ i :: after) s =
      (some (accessError timedOut),
        { s with cr := landWords cw (if landed then before ++ [i] else before) s.cr, writeAnswers := rest
                 calls := s.calls ++ (before ++ [i]).map fun i => .write h i cw[i] }) := by
  rw [writeAll_append_of_ok h cw before (i :: after) s _ answers, writeAll,
    devWrite_failed h i cw[i] _ timedOut landed rest rfl]
  cases landed <;> simp [landWords, setAll]

/-- The words read from the registers of a list, each from the device as it stood at that read, put in place. -/
def gatherWords (reads : List (Fin 4 × Vector Word 4)) (raw : RawWords) : RawWords :=
  reads.foldl (fun raw read => raw.set read.1 read.2[read.1]) raw

theorem gatherWords_map (m : Fin 4 → Vector Word 4) (order : List (Fin 4)) (raw : RawWords) :
    gatherWords (order.map fun j => (j, m j)) raw = setAll (fun j => (m j)[j]) order raw := by
  simp [gatherWords, setAll, List.foldl_map]

/-- Reads that succeed, and the reads after them: the device stands where the last one found it. -/
theorem readAll_append_of_ok (h : Handle) (reads : List (Fin 4 × Vector Word 4)) (after : List (Fin 4))
    (raw : RawWords) (s : State) (rest : List ReadAnswer)
    (answers : s.readAnswers = reads.map (fun read => .ok read.2) ++ rest) :
    readAll h (reads.map Prod.fst ++ after) raw s =
      readAll h after (gatherWords reads raw)
        { s with mr := (reads.map Prod.snd).getLastD s.mr, readAnswers := rest
                 calls := s.calls ++ reads.map fun read => .read h read.1 } := by
  induction reads generalizing raw s with
  | nil =>
    obtain rfl : s.readAnswers = rest := answers
    simp [gatherWords]
  | cons read reads ih =>
    have step := devRead_ok h read.1 s read.2 _ answers
    rw [List.map_cons, List.cons_append, readAll, step]
    dsimp only
    rw [ih _ _ rfl, List.append_assoc, List.map_cons (f := Prod.snd), List.getLastD_cons]
    rfl

theorem readAll_of_ok (h : Handle) (m : Fin 4 → Vector Word 4) (order : List (Fin 4)) (raw : RawWords) (s : State)
    (rest : List ReadAnswer) (answers : s.readAnswers = order.map (fun j => .ok (m j)) ++ rest) :
    readAll h order raw s =
      (.ok (setAll (fun j => (m j)[j]) order raw),
        { s with mr := (order.map m).getLastD s.mr, readAnswers := rest
                 calls := s.calls ++ order.map fun j => .read h j }) := by
  have whole := readAll_append_of_ok h (order.map fun j => (j, m j)) [] raw s rest
    (by rw [answers, List.map_map]; rfl)
  rw [gatherWords_map] at whole
  simpa only [List.map_map, Function.comp_def, List.map_id', List.append_nil, readAll] using whole

/-- The first read that fails is the last one issued. -/
theorem readAll_of_failed (h : Handle) (reads : List (Fin 4 × Vector Word 4)) (j : Fin 4) (after : List (Fin 4))
    (raw : RawWords) (s : State) (timedOut : Bool) (rest : List ReadAnswer)
    (answers : s.readAnswers = reads.map (fun read => .ok read.2) ++ failedRead timedOut :: rest) :
    readAll h (reads.map Prod.fst ++ j :: after) raw s =
      (.error (accessError timedOut),
        { s with mr := (reads.map Prod.snd).getLastD s.mr, readAnswers := rest
                 calls := s.calls ++ (reads.map Prod.fst ++ [j]).map fun j => .read h j }) := by
  rw [readAll_append_of_ok h reads (j :: after) raw s _ answers, readAll,
    devRead_failed h j _ timedOut rest rfl]
  simp

end Sys2Proof.Machine

/-! The session operations when the transport's coming answers are known (43_session_ops.md R221 to R226). -/

namespace Sys2Proof.Machine

/-- Settles O44: the call's answer is the oldest one listed. -/
theorem deploySucceeds : Obligations.DeploySucceeds := by
  intro s slot bitstream policy h dev rest unbound answers
  rw [exec_deploy_of_unbound unbound, tDeploy_eq slot bitstream policy s.begin _ rest answers]
  rfl

/-- Settles O45: the two failures by the listed answer, the refusal by SS alone. -/
theorem deployFailsTimesOutOrIsRefused : Obligations.DeployFailsTimesOutOrIsRefused := by
  intro s slot bitstream policy dev rest
  refine ⟨fun unbound answers => ?_, fun unbound answers => ?_, fun held => exec_deploy_of_held held _ _ _⟩
  · rw [exec_deploy_of_unbound unbound, tDeploy_eq slot bitstream policy s.begin _ rest answers]
    rfl
  · rw [exec_deploy_of_unbound unbound, tDeploy_eq slot bitstream policy s.begin _ rest answers]
    rfl

/-- CONFIGURE of a valid config whose writes all succeed, in any order that names every register once. -/
theorem configureDevice_of_writes_ok {p : Params} (legal : p.Legal) {s : State} {cfg : SequencerConfig} {h : Handle}
    {rest : List WriteAnswer} (live : s.handle = some h) (valid : ConfigValid cfg)
    (answers : s.writeAnswers = List.replicate 9 .ok ++ rest) :
    configureDevice p cfg s = .next
      { s with ss := .configured, cfgLast := some cfg, w0c := (packWords p cfg)[0], cr := packWords p cfg
               writeAnswers := rest, reply := some (.ok .nothing)
               calls := p.cfgWriteOrder.map fun i => .write h i (packWords p cfg)[i] } := by
  obtain ⟨-, validation, writes, -⟩ := legal
  have nine : p.cfgWriteOrder.length = 9 := by rw [writes.length_eq, List.length_finRange]
  rw [configureDevice_of_ok (cbuild_of_valid validation valid) live,
    writeAll_of_ok h _ _ s.begin rest (by rw [nine]; exact answers), landWords_eq_of_perm writes]
  rfl

theorem params_legal : params.Legal := ⟨.inl rfl, .rfl, .rfl, .rfl⟩

/-- Settles O46: the nine writes of decision D12's order land, and only then SS, CFG_LAST and W0C follow. -/
theorem configureSucceeds : Obligations.ConfigureSucceeds := by
  intro s cfg h rest held live valid answers
  refine ⟨packWords params cfg, packWords_wordsOf valid, ?_⟩
  rw [exec_configure_of_held held, configureDevice_of_writes_ok params_legal live valid answers]
  rfl

/-- Settles O47: both checks come before the first write. -/
theorem configureRejectsWithoutAccess : Obligations.ConfigureRejectsWithoutAccess := by
  refine fun s cfg => ⟨fun unbound => exec_configure_of_unbound unbound cfg, fun f held first => ?_⟩
  rw [exec_configure_of_held held, configureDevice_of_firstViolated first]

/-- An order from 0 upwards, cut at number k. -/
theorem finRange_eq_take_append {n : Nat} (k : Fin n) :
    List.finRange n = (List.finRange n).take k ++ k :: (List.finRange n).drop (k + 1) := by
  have fits : (k : Nat) < (List.finRange n).length := by simp
  conv_lhs => rw [← List.take_append_drop k (List.finRange n), List.drop_eq_getElem_cons fits]
  simp

theorem take_succ_finRange {n : Nat} (k : Fin n) :
    (List.finRange n).take (k + 1) = (List.finRange n).take k ++ [k] := by
  have fits : (k : Nat) < (List.finRange n).length := by simp
  rw [List.take_succ_eq_append_getElem fits]
  simp

theorem mem_take_finRange_iff {n : Nat} (j : Fin n) (k : Nat) : j ∈ (List.finRange n).take k ↔ j.val < k := by
  simp [List.mem_take_iff_getElem, Fin.ext_iff]

/-- Settles O48: the writes before number k land, the one that fails is the last one issued. -/
theorem configureStopsAtTheFirstFailedWrite : Obligations.ConfigureStopsAtTheFirstFailedWrite := by
  intro s cfg h k timedOut landed rest held live valid answers
  have before : ((List.finRange 9).take k).length = k := by simp
  have writes := writeAll_of_failed h (packWords params cfg) ((List.finRange 9).take k)
    ((List.finRange 9).drop (k + 1)) k s.begin timedOut landed rest (by rw [before]; exact answers)
  rw [← finRange_eq_take_append k, ← take_succ_finRange k] at writes
  have run := configureDevice_of_ok (cbuild_of_valid (p := params) .rfl valid) live
  have order : params.cfgWriteOrder = List.finRange 9 := rfl
  rw [order, writes, ← exec_configure_of_held held] at run
  refine ⟨packWords params cfg, _, packWords_wordsOf valid, run, rfl, fun j => ?_⟩
  have landedWrites : (j ∈ if landed then (List.finRange 9).take (k + 1) else (List.finRange 9).take k) ↔
      j < k ∨ j = k ∧ landed = true := by
    cases landed <;> simp [mem_take_finRange_iff, le_iff_lt_or_eq, Fin.ext_iff]
  exact (setAll_getElem _ _ _ j).trans (if_congr landedWrites rfl rfl)

/-- Settles O49: whatever the order, every register is written, and each with its own word. -/
theorem configureSucceedsForEveryWriteOrder : Obligations.ConfigureSucceedsForEveryWriteOrder := by
  intro p s cfg h rest legal deployed live valid answers
  have admitted : configureWith p cfg s = configureDevice p cfg s := by simp only [configureWith, deployed]
  have run := admitted.trans (configureDevice_of_writes_ok legal live valid answers)
  obtain ⟨-, validation, -, -⟩ := legal
  exact ⟨packWords p cfg, _, cbuild_of_valid validation valid, run, rfl⟩

/-- Settles O50: the one write lands, and W0C follows it. -/
theorem enableAndDisableSucceed : Obligations.EnableAndDisableSucceed := by
  intro s h rest ready live answers
  rw [exec_enable, exec_disable, writeWord0_of_handle ready live, writeWord0_of_handle ready live,
    devWrite_ok h 0 _ s.begin rest answers, devWrite_ok h 0 _ s.begin rest answers]
  exact ⟨rfl, rfl⟩

/-- Settles O51: the check of SS comes before the write. -/
theorem enableAndDisableNotReadyBeforeConfigured : Obligations.EnableAndDisableNotReadyBeforeConfigured :=
  fun _ early => ⟨writeWord0_of_notConfigured early _, writeWord0_of_notConfigured early _⟩

/-- Settles O52: the one write fails, and W0C stays. -/
theorem enableAndDisableFailedWrite : Obligations.EnableAndDisableFailedWrite := by
  intro s h timedOut landed rest ready live answers
  rw [exec_enable, exec_disable, writeWord0_of_handle ready live, writeWord0_of_handle ready live,
    devWrite_failed h 0 _ s.begin timedOut landed rest answers,
    devWrite_failed h 0 _ s.begin timedOut landed rest answers]
  exact ⟨rfl, rfl⟩

/-- Settles O59: whatever the order, every place of the snapshot is filled, and each from its own read. -/
theorem statusSucceedsForEveryReadOrder : Obligations.StatusSucceedsForEveryReadOrder := by
  intro p s h m rest legal held live answers
  obtain ⟨-, -, -, reads⟩ := legal
  have filled : setAll (fun j => (m j)[j]) p.statusReadOrder #v[0, 0, 0, 0] =
      #v[(m 0)[0], (m 1)[1], (m 2)[2], (m 3)[3]] := by
    refine Vector.ext fun j below => (setAll_getElem_of_perm reads _ _ ⟨j, below⟩).trans ?_
    interval_cases j <;> rfl
  rw [statusWith_of_held held, statusDevice_of_handle live, readAll_of_ok h m _ _ s.begin rest answers, filled]
  rfl

/-- Settles O53: the default order, decision D13, is a legal one. -/
theorem statusSucceeds : Obligations.StatusSucceeds := fun s h m0 m1 m2 m3 rest held live answers =>
  statusSucceedsForEveryReadOrder params s h ![m0, m1, m2, m3] rest params_legal held live answers

/-- Settles O54: the reads before the failed one leave MR where the last of them found it. -/
theorem statusStopsAtTheFirstFailedRead : Obligations.StatusStopsAtTheFirstFailedRead := by
  intro s h before timedOut rest held live short answers
  let k : Fin 4 := ⟨before.length, short⟩
  have sameLength : ((List.finRange 4).take k).length = before.length := by simp [k, short.le]
  have indices := List.map_fst_zip sameLength.le
  have shown := List.map_snd_zip sameLength.ge
  have listed : s.readAnswers = (((List.finRange 4).take k).zip before).map (fun read => .ok read.2) ++
      failedRead timedOut :: rest := by
    rw [answers, ← shown, List.map_map, shown]
    rfl
  have reads := readAll_of_failed h (((List.finRange 4).take k).zip before) k ((List.finRange 4).drop (k + 1))
    #v[0, 0, 0, 0] s.begin timedOut rest listed
  rw [indices, shown, ← finRange_eq_take_append k, ← take_succ_finRange k] at reads
  have order : params.statusReadOrder = List.finRange 4 := rfl
  rw [exec_status, statusWith_of_held held, statusDevice_of_handle live, order, reads]
  rfl

/-- Settles O55: without a handle there is nothing to read. -/
theorem statusDisconnectedWhileUnbound : Obligations.StatusDisconnectedWhileUnbound :=
  fun _ unbound => statusWith_of_unbound unbound params

/-- Settles O56: the state after the call does not depend on the answer, only the reply and the device do. -/
theorem releaseSucceeds : Obligations.ReleaseSucceeds := by
  intro s h a rest held live answers
  have run := (exec_release_of_held held).trans (releaseDevice_of_handle live)
  rw [tRelease_eq h s.begin a rest answers] at run
  exact ⟨_, run, rfl⟩

/-- Settles O57: without a handle there is nothing to release. -/
theorem releaseIdempotentWhileUnbound : Obligations.ReleaseIdempotentWhileUnbound :=
  fun _ unbound => exec_release_of_unbound unbound

end Sys2Proof.Machine

/-! Two runs side by side (10_state.md R23, R43): from states that differ in W0C and the device's registers alone, an
operation that does not read W0C ends in states that differ there alone. -/

namespace Sys2Proof.Machine

/-- `Alike d a b s t`: t is s but for W0C, CR and MR; CR and MR are the same too if d holds; W0C is the same too, or a
in s and b in t. With d false and a = b only the device may differ, with d true only W0C. -/
structure Alike (d : Prop) (a b : Word) (s t : State) : Prop where
  rest : t = { s with w0c := t.w0c, cr := t.cr, mr := t.mr }
  device : d → t.cr = s.cr ∧ t.mr = s.mr
  w0c : t.w0c = s.w0c ∨ s.w0c = a ∧ t.w0c = b

/-- Two runs of a shared operation returned the same value and left states alike. -/
inductive AlikeResults {α : Type} (d : Prop) (a b : Word) : α × State → α × State → Prop where
  | intro {s t : State} (r : α) : Alike d a b s t → AlikeResults d a b (r, s) (r, t)

/-- Two runs of an operation stopped for the same reason or left states alike. -/
inductive AlikeOutcomes (d : Prop) (a b : Word) :
    Host.Outcome State Fault Refusal → Host.Outcome State Fault Refusal → Prop where
  | next {s t : State} : Alike d a b s t → AlikeOutcomes d a b (.next s) (.next t)
  | fault (f : Fault) : AlikeOutcomes d a b (.fault f) (.fault f)
  | refused (r : Refusal) : AlikeOutcomes d a b (.refused r) (.refused r)

section TwoRuns

variable {d : Prop} {a b : Word} {s t : State}

theorem Alike.ss (alike : Alike d a b s t) : t.ss = s.ss := by rw [alike.rest]

theorem Alike.handle (alike : Alike d a b s t) : t.handle = s.handle := by rw [alike.rest]

/-- An update that touches none of the three fields and reads none of them. -/
theorem Alike.map (alike : Alike d a b s t) {f : State → State}
    (blind : ∀ s w cr mr, f { s with w0c := w, cr := cr, mr := mr } = { f s with w0c := w, cr := cr, mr := mr })
    (keeps : ∀ s, (f s).w0c = s.w0c ∧ (f s).cr = s.cr ∧ (f s).mr = s.mr) : Alike d a b (f s) (f t) := by
  obtain ⟨sW, sCr, sMr⟩ := keeps s
  obtain ⟨tW, tCr, tMr⟩ := keeps t
  obtain ⟨rest, device, w0c⟩ := alike
  refine ⟨?_, ?_, ?_⟩
  · rw [tW, tCr, tMr, ← blind, ← rest]
  · rwa [sCr, tCr, sMr, tMr]
  · rwa [sW, tW]

theorem Alike.begin (alike : Alike d a b s t) : Alike d a b s.begin t.begin :=
  alike.map (f := State.begin) (fun _ _ _ _ => rfl) fun _ => ⟨rfl, rfl, rfl⟩

theorem Alike.answer (alike : Alike d a b s t) (r : Result) : Alike d a b (s.answer r) (t.answer r) :=
  alike.map (f := State.answer r) (fun _ _ _ _ => rfl) fun _ => ⟨rfl, rfl, rfl⟩

theorem Alike.fail (alike : Alike d a b s t) (e : OpError) : Alike d a b (s.fail e) (t.fail e) :=
  alike.map (f := State.fail e) (fun _ _ _ _ => rfl) fun _ => ⟨rfl, rfl, rfl⟩

theorem Alike.record (alike : Alike d a b s t) (c : Call) : Alike d a b (s.record c) (t.record c) :=
  alike.map (f := State.record c) (fun _ _ _ _ => rfl) fun _ => ⟨rfl, rfl, rfl⟩

theorem Alike.onlyReplied (alike : Alike d a b s t) (r : Reply) : Alike d a b (onlyReplied s r) (onlyReplied t r) :=
  alike.map (f := (Machine.onlyReplied · r)) (fun _ _ _ _ => rfl) fun _ => ⟨rfl, rfl, rfl⟩

theorem Alike.dropWriteAnswer (alike : Alike d a b s t) : Alike d a b s.dropWriteAnswer t.dropWriteAnswer :=
  alike.map (fun s _ _ _ => by unfold State.dropWriteAnswer; cases s.writeAnswers <;> rfl) (by simp)

theorem Alike.dropReadAnswer (alike : Alike d a b s t) : Alike d a b s.dropReadAnswer t.dropReadAnswer :=
  alike.map (fun s _ _ _ => by unfold State.dropReadAnswer; cases s.readAnswers <;> rfl) (by simp)

theorem Alike.dropDeployAnswer (alike : Alike d a b s t) : Alike d a b s.dropDeployAnswer t.dropDeployAnswer :=
  alike.map (fun s _ _ _ => by unfold State.dropDeployAnswer; cases s.deployAnswers <;> rfl) (by simp)

theorem Alike.dropReleaseAnswer (alike : Alike d a b s t) : Alike d a b s.dropReleaseAnswer t.dropReleaseAnswer :=
  alike.map (fun s _ _ _ => by unfold State.dropReleaseAnswer; cases s.releaseAnswers <;> rfl) (by simp)

theorem Alike.nextWriteAnswer (alike : Alike d a b s t) : t.nextWriteAnswer = s.nextWriteAnswer := by
  rw [alike.rest]; rfl

theorem Alike.nextReadAnswer (alike : Alike d a b s t) : t.nextReadAnswer = s.nextReadAnswer := by
  rw [alike.rest]; rfl

theorem Alike.nextDeployAnswer (alike : Alike d a b s t) : t.nextDeployAnswer = s.nextDeployAnswer := by
  rw [alike.rest]; rfl

theorem Alike.nextReleaseAnswer (alike : Alike d a b s t) : t.nextReleaseAnswer = s.nextReleaseAnswer := by
  rw [alike.rest]; rfl

theorem Alike.setCr (alike : Alike d a b s t) (i : Fin 9) (w : Word) : Alike d a b (s.setCr i w) (t.setCr i w) := by
  obtain ⟨rest, device, w0c⟩ := alike
  refine ⟨?_, fun same => ?_, w0c⟩
  · rw [rest]; rfl
  · obtain ⟨cr, mr⟩ := device same
    exact ⟨by simp [cr], mr⟩

theorem Alike.writeEffect (alike : Alike d a b s t) (answer : WriteAnswer) (i : Fin 9) (w : Word) :
    Alike d a b (s.writeEffect answer i w) (t.writeEffect answer i w) := by
  cases answer with
  | ok => exact alike.setCr i w
  | terr landed | tout landed =>
    cases landed with
    | true => exact alike.setCr i w
    | false => exact alike

theorem Alike.deviceShows (alike : Alike d a b s t) (mr : Vector Word 4) :
    Alike d a b (s.deviceShows mr) (t.deviceShows mr) := by
  obtain ⟨rest, device, w0c⟩ := alike
  refine ⟨?_, fun same => ⟨(device same).1, rfl⟩, w0c⟩
  rw [rest]; rfl

theorem Alike.deviceHolds (alike : Alike d a b s t) (dev : DeviceRegs) :
    Alike d a b (s.deviceHolds dev) (t.deviceHolds dev) := by
  obtain ⟨rest, device, w0c⟩ := alike
  refine ⟨?_, fun _ => ⟨rfl, rfl⟩, w0c⟩
  rw [rest]; rfl

theorem Alike.devWrite (alike : Alike d a b s t) (h : Handle) (i : Fin 9) (w : Word) :
    AlikeResults d a b (devWrite h i w s) (devWrite h i w t) := by
  simp only [Machine.devWrite, alike.nextWriteAnswer]
  exact .intro _ ((alike.record _).dropWriteAnswer.writeEffect _ i w)

theorem Alike.writeAll (alike : Alike d a b s t) (h : Handle) (cw : ControlWordSet) (order : List (Fin 9)) :
    AlikeResults d a b (writeAll h cw order s) (writeAll h cw order t) := by
  induction order generalizing s t with
  | nil => exact .intro _ alike
  | cons i rest ih =>
    simp only [Machine.writeAll]
    have firsts := alike.devWrite h i cw[i]
    generalize Machine.devWrite h i cw[i] s = first, Machine.devWrite h i cw[i] t = second at firsts ⊢
    obtain ⟨e, after⟩ := firsts
    cases e with
    | none => exact ih after
    | some e => exact .intro _ after

theorem Alike.devRead (alike : Alike d a b s t) (h : Handle) (j : Fin 4) :
    AlikeResults d a b (devRead h j s) (devRead h j t) := by
  have after := (alike.record (.read h j)).dropReadAnswer
  simp only [Machine.devRead, alike.nextReadAnswer]
  cases s.nextReadAnswer with
  | ok mr => exact .intro _ (after.deviceShows mr)
  | terr | tout => exact .intro _ after

theorem Alike.readAll (alike : Alike d a b s t) (h : Handle) (order : List (Fin 4)) (raw : RawWords) :
    AlikeResults d a b (readAll h order raw s) (readAll h order raw t) := by
  induction order generalizing s t raw with
  | nil => exact .intro _ alike
  | cons j rest ih =>
    simp only [Machine.readAll]
    have firsts := alike.devRead h j
    generalize Machine.devRead h j s = first, Machine.devRead h j t = second at firsts ⊢
    obtain ⟨r, after⟩ := firsts
    cases r with
    | ok w => exact ih after (raw.set j w)
    | error e => exact .intro _ after

theorem Alike.tDeploy (alike : Alike d a b s t) (slot : Nat) (bitstream : List Byte) (policy : Nat) :
    AlikeResults d a b (tDeploy slot bitstream policy s) (tDeploy slot bitstream policy t) := by
  simp only [Machine.tDeploy, alike.nextDeployAnswer]
  exact .intro _ ((alike.record _).dropDeployAnswer.deviceHolds _)

theorem Alike.tRelease (alike : Alike d a b s t) (h : Handle) : AlikeResults d a b (tRelease h s) (tRelease h t) := by
  simp only [Machine.tRelease, alike.nextReleaseAnswer]
  exact .intro _ ((alike.record _).dropReleaseAnswer.deviceHolds _)

theorem AlikeResults.deployEffect {first second : DeployAnswer × State} (results : AlikeResults d a b first second) :
    Alike d a b (deployEffect first) (deployEffect second) := by
  obtain ⟨answer, alike⟩ := results
  cases answer with
  | ok h dev =>
    refine Alike.answer (alike.map (f := fun s => { s with handle := some h, ss := .deployed }) ?_ ?_) _
    · exact fun _ _ _ _ => rfl
    · exact fun _ => ⟨rfl, rfl, rfl⟩
  | fail dev | tout dev => exact alike.fail _

theorem AlikeResults.configureEffect {first second : Option OpError × State}
    (results : AlikeResults d a b first second) (cfg : SequencerConfig) (cw : ControlWordSet) :
    Alike d a b (configureEffect cfg cw first) (configureEffect cfg cw second) := by
  obtain ⟨e, alike⟩ := results
  cases e with
  | none =>
    refine ⟨?_, alike.device, .inl rfl⟩
    rw [alike.rest]; rfl
  | some e => exact alike.fail e

theorem AlikeResults.word0Effect {first second : Option OpError × State} (results : AlikeResults d a b first second)
    (w : Word) : Alike d a b (word0Effect w first) (word0Effect w second) := by
  obtain ⟨e, alike⟩ := results
  cases e with
  | none =>
    refine ⟨?_, alike.device, .inl rfl⟩
    rw [alike.rest]; rfl
  | some e => exact alike.fail e

theorem AlikeResults.statusEffect {first second : Except OpError RawWords × State}
    (results : AlikeResults d a b first second) : Alike d a b (statusEffect first) (statusEffect second) := by
  obtain ⟨r, alike⟩ := results
  cases r with
  | ok raw => exact alike.answer _
  | error e => exact alike.fail e

/-- RELEASE's unspecified W0C is a free value drawn after the same number of draws (log entry 9). -/
theorem AlikeResults.releaseEffect {first second : ReleaseAnswer × State} (results : AlikeResults d a b first second) :
    Alike d a b (releaseEffect first) (releaseEffect second) := by
  obtain @⟨s, t, answer, alike⟩ := results
  have draws : t.draws = s.draws := by rw [alike.rest]
  refine ⟨?_, alike.device, .inl (congrArg Config.freeWord draws)⟩
  rw [alike.rest]; rfl

theorem Alike.configureDevice (alike : Alike d a b s t) (cfg : SequencerConfig) :
    AlikeOutcomes d a b (configureDevice params cfg s) (configureDevice params cfg t) := by
  rcases cbuild_cases cfg with ⟨-, built⟩ | ⟨f, first, -⟩
  · cases live : s.handle with
    | none =>
      rw [configureDevice_of_noHandle built live, configureDevice_of_noHandle built (alike.handle.trans live)]
      exact .fault _
    | some h =>
      rw [configureDevice_of_ok built live, configureDevice_of_ok built (alike.handle.trans live)]
      exact .next ((alike.begin.writeAll h _ _).configureEffect cfg _)
  · rw [configureDevice_of_firstViolated first, configureDevice_of_firstViolated first]
    exact .next (alike.onlyReplied _)

/-- ENABLE and DISABLE use W0C in Configured alone, so there it must be the same word. -/
theorem Alike.writeWord0 (alike : Alike d a b s t) {v w : Word} (same : s.ss = .configured → v = w) :
    AlikeOutcomes d a b (writeWord0 v s) (writeWord0 w t) := by
  by_cases ready : s.ss = .configured
  · obtain rfl := same ready
    have ready' := alike.ss.trans ready
    cases live : s.handle with
    | none =>
      rw [writeWord0_of_noHandle ready live, writeWord0_of_noHandle ready' (alike.handle.trans live)]
      exact .fault _
    | some h =>
      rw [writeWord0_of_handle ready live, writeWord0_of_handle ready' (alike.handle.trans live)]
      exact .next ((alike.begin.devWrite h 0 v).word0Effect v)
  · have early : t.ss ≠ .configured := alike.ss.trans_ne ready
    rw [writeWord0_of_notConfigured ready, writeWord0_of_notConfigured early, alike.ss]
    exact .next (alike.onlyReplied _)

theorem Alike.statusDevice (alike : Alike d a b s t) (p : Params) :
    AlikeOutcomes d a b (statusDevice p s) (statusDevice p t) := by
  cases live : s.handle with
  | none =>
    rw [statusDevice_of_noHandle live, statusDevice_of_noHandle (alike.handle.trans live)]
    exact .fault _
  | some h =>
    rw [statusDevice_of_handle live, statusDevice_of_handle (alike.handle.trans live)]
    exact .next (alike.begin.readAll h _ _).statusEffect

theorem Alike.releaseDevice (alike : Alike d a b s t) : AlikeOutcomes d a b (releaseDevice s) (releaseDevice t) := by
  cases live : s.handle with
  | none =>
    rw [releaseDevice_of_noHandle live, releaseDevice_of_noHandle (alike.handle.trans live)]
    exact .fault _
  | some h =>
    rw [releaseDevice_of_handle live, releaseDevice_of_handle (alike.handle.trans live)]
    exact .next (alike.begin.tRelease h).releaseEffect

/-- No operation can tell two such states apart, W0C being the same where ENABLE and DISABLE use it. -/
theorem Alike.exec (alike : Alike d a b s t) (sameW0c : s.ss = .configured → s.w0c = t.w0c) (i : Instr) :
    AlikeOutcomes d a b (exec i s) (exec i t) := by
  by_cases pure : isPure i = true
  · obtain ⟨r, -, run⟩ := exec_of_isPure pure
    rw [run s, run t]
    exact .next (alike.onlyReplied r)
  by_cases unbound : s.ss = .unbound
  · have unbound' := alike.ss.trans unbound
    cases i with
    | deploy slot bitstream policy =>
      rw [exec_deploy_of_unbound unbound, exec_deploy_of_unbound unbound']
      exact .next (alike.begin.tDeploy slot bitstream policy).deployEffect
    | configure cfg =>
      rw [exec_configure_of_unbound unbound, exec_configure_of_unbound unbound']
      exact .next (alike.onlyReplied _)
    | enable => exact alike.writeWord0 fun ready => congrArg clearDis (sameW0c ready)
    | disable => exact alike.writeWord0 fun ready => congrArg setDis (sameW0c ready)
    | status =>
      rw [exec_status, exec_status, statusWith_of_unbound unbound, statusWith_of_unbound unbound']
      exact .next (alike.onlyReplied _)
    | release =>
      rw [exec_release_of_unbound unbound, exec_release_of_unbound unbound']
      exact .next (alike.onlyReplied _)
    | _ => exact absurd rfl pure
  · have held : t.ss ≠ .unbound := alike.ss.trans_ne unbound
    cases i with
    | deploy slot bitstream policy =>
      rw [exec_deploy_of_held unbound, exec_deploy_of_held held]
      exact .refused _
    | configure cfg =>
      rw [exec_configure_of_held unbound, exec_configure_of_held held]
      exact alike.configureDevice cfg
    | enable => exact alike.writeWord0 fun ready => congrArg clearDis (sameW0c ready)
    | disable => exact alike.writeWord0 fun ready => congrArg setDis (sameW0c ready)
    | status =>
      rw [exec_status, exec_status, statusWith_of_held unbound, statusWith_of_held held]
      exact alike.statusDevice params
    | release =>
      rw [exec_release_of_held unbound, exec_release_of_held held]
      exact alike.releaseDevice
    | _ => exact absurd rfl pure

theorem AlikeOutcomes.exists_next {o : Host.Outcome State Fault Refusal}
    (outcomes : AlikeOutcomes d a b (.next s) o) : ∃ t, o = .next t ∧ Alike d a b s t := by
  cases outcomes with
  | next alike => exact ⟨_, rfl, alike⟩

end TwoRuns

/-- Settles O16: the two runs may differ in the device's registers alone. -/
theorem outcomesDoNotDependOnDeviceRegisters : Obligations.OutcomesDoNotDependOnDeviceRegisters := by
  intro i s t cr mr run
  have start : Alike False s.w0c s.w0c s { s with cr := cr, mr := mr } := ⟨rfl, False.elim, .inl rfl⟩
  have outcomes := start.exec (fun _ => rfl) i
  rw [run] at outcomes
  obtain ⟨t', run', rest, -, w0c⟩ := outcomes.exists_next
  have same : t'.w0c = t.w0c := w0c.elim id fun ⟨first, second⟩ => second.trans first.symm
  rw [same] at rest
  exact ⟨t', run', rest⟩

/-- Settles O17: the two runs may differ in W0C alone, which outside Configured no operation uses. -/
theorem w0cIsNotReadOutsideConfigured : Obligations.W0cIsNotReadOutsideConfigured := by
  intro i s t w early run
  have start : Alike True s.w0c w s { s with w0c := w } := ⟨rfl, fun _ => ⟨rfl, rfl⟩, .inr ⟨rfl, rfl⟩⟩
  have outcomes := start.exec (fun ready => absurd ready early) i
  rw [run] at outcomes
  obtain ⟨t', run', rest, device, w0c⟩ := outcomes.exists_next
  obtain ⟨cr, mr⟩ := device trivial
  rw [cr, mr] at rest
  exact ⟨t', run', rest, w0c⟩

end Sys2Proof.Machine

/-! Rounding (00_scope.md R10): `rnd` is the nearest integer, and a tie goes where its rule says. -/

namespace Sys2Proof.Machine

/-- Where a value half way between two integers is rounded to (00_scope.md R10). -/
def TieRule : Ties → Rat → Int → Prop
  | .even, _, k => Even k
  | .away, q, k => |q| < |(k : Rat)|

/-- k is the integer R10 rounds q to. -/
def Nearest (ties : Ties) (q : Rat) (k : Int) : Prop :=
  |q - k| < 1 / 2 ∨ |q - k| = 1 / 2 ∧ TieRule ties q k

theorem Nearest.dist_le {ties : Ties} {q : Rat} {k : Int} (near : Nearest ties q k) : |q - k| ≤ 1 / 2 :=
  near.elim le_of_lt fun ⟨tie, _⟩ => tie.le

theorem tieRule_rnd {ties : Ties} {q : Rat} (tie : q - q.floor = 1 / 2) :
    TieRule ties q (rnd ties q) ∧ |q - rnd ties q| = 1 / 2 := by
  have below : |q - q.floor| = 1 / 2 := by rw [tie, abs_of_pos (by norm_num)]
  have above : |q - ((q.floor + 1 : Int) : Rat)| = 1 / 2 := by
    push_cast
    rw [abs_of_neg (by linarith)]
    linarith
  cases ties with
  | even =>
    by_cases even : q.floor % 2 = 0
    · have value : rnd .even q = q.floor := by simp [rnd, tie, even]
      rw [value]
      exact ⟨Int.even_iff.2 even, below⟩
    · have value : rnd .even q = q.floor + 1 := by simp [rnd, tie, even]
      rw [value]
      exact ⟨Int.even_iff.2 (by omega), above⟩
  | away =>
    by_cases nonneg : 0 ≤ q
    · have value : rnd .away q = q.floor + 1 := by simp [rnd, tie, nonneg]
      rw [value]
      refine ⟨?_, above⟩
      simp only [TieRule]
      rw [abs_of_nonneg nonneg]
      exact lt_of_lt_of_le (by push_cast; linarith) (le_abs_self _)
    · have value : rnd .away q = q.floor := by simp [rnd, tie, nonneg]
      rw [value]
      refine ⟨?_, below⟩
      simp only [TieRule]
      rw [abs_of_neg (not_le.1 nonneg)]
      exact lt_of_lt_of_le (by linarith) (neg_le_abs _)

theorem nearest_rnd (ties : Ties) (q : Rat) : Nearest ties q (rnd ties q) := by
  have lo := Rat.floor_le q
  have hi := Rat.lt_floor_add_one q
  push_cast at hi
  rcases lt_trichotomy (q - q.floor) (1 / 2) with low | tie | high
  · have value : rnd ties q = q.floor := by
      simp only [rnd]
      exact if_pos low
    rw [value]
    exact .inl (by rwa [abs_of_nonneg (by linarith)])
  · obtain ⟨rule, half⟩ := tieRule_rnd (ties := ties) tie
    exact .inr ⟨half, rule⟩
  · have value : rnd ties q = q.floor + 1 := by
      simp only [rnd]
      rw [if_neg (not_lt.2 high.le), if_pos high]
    rw [value]
    refine .inl ?_
    push_cast
    rw [abs_of_neg (by linarith)]
    linarith

/-- No tie rule allows both neighbours of a value half way between them. -/
theorem not_tieRule_both {ties : Ties} {q : Rat} {k : Int} (low : q - k = 1 / 2) (rule : TieRule ties q k) :
    ¬ TieRule ties q (k + 1) := by
  intro next
  cases ties with
  | even => exact Int.even_add_one.1 next rule
  | away =>
    simp only [TieRule] at rule next
    push_cast at next
    rcases le_or_gt 0 k with nonneg | neg
    · have nonnegRat : (0 : Rat) ≤ k := by exact_mod_cast nonneg
      rw [abs_of_nonneg nonnegRat, abs_of_nonneg (by linarith)] at rule
      linarith
    · have negRat : (k : Rat) + 1 ≤ 0 := by exact_mod_cast neg
      rw [abs_of_nonpos negRat, abs_of_nonpos (by linarith)] at next
      linarith

theorem Nearest.unique {ties : Ties} {q : Rat} {k l : Int} (hk : Nearest ties q k) (hl : Nearest ties q l) :
    k = l := by
  wlog le : k ≤ l generalizing k l
  · exact (this hl hk (le_of_not_ge le)).symm
  by_contra ne
  have apart : (k : Rat) + 1 ≤ l := by exact_mod_cast lt_of_le_of_ne le ne
  obtain ⟨-, kHigh⟩ := abs_le.1 hk.dist_le
  obtain ⟨lLow, -⟩ := abs_le.1 hl.dist_le
  have low : q - k = 1 / 2 := by linarith
  have next : (l : Rat) = ((k + 1 : Int) : Rat) := by push_cast; linarith
  obtain rfl : l = k + 1 := by exact_mod_cast next
  have high : q - ((k + 1 : Int) : Rat) = -(1 / 2) := by push_cast; linarith
  have kRule : TieRule ties q k := (hk.resolve_left (by rw [low]; norm_num)).2
  have lRule : TieRule ties q (k + 1) := (hl.resolve_left (by rw [high]; norm_num)).2
  exact not_tieRule_both low kRule lRule

theorem rnd_eq_iff (ties : Ties) (q : Rat) (k : Int) : rnd ties q = k ↔ Nearest ties q k :=
  ⟨fun value => value ▸ nearest_rnd ties q, (nearest_rnd ties q).unique⟩

/-- Settles O27: `rnd` is nearest, and only one integer is. -/
theorem roundingIsNearestWithItsTieRule : Obligations.RoundingIsNearestWithItsTieRule :=
  fun q k => ⟨rnd_eq_iff .even q k, rnd_eq_iff .away q k⟩

theorem rnd_dist_le (ties : Ties) (q : Rat) : -(1 / 2) ≤ q - rnd ties q ∧ q - rnd ties q ≤ 1 / 2 :=
  abs_le.1 (nearest_rnd ties q).dist_le

theorem rnd_mono (ties : Ties) {q r : Rat} (le : q ≤ r) : rnd ties q ≤ rnd ties r := by
  by_contra inverted
  have apart : (rnd ties r : Rat) + 1 ≤ rnd ties q := by exact_mod_cast not_le.1 inverted
  obtain ⟨qLow, -⟩ := rnd_dist_le ties q
  obtain ⟨-, rHigh⟩ := rnd_dist_le ties r
  obtain rfl : q = r := by linarith
  exact inverted le_rfl

end Sys2Proof.Machine

/-! The voltage codec (40_voltage_codec.md): the two directions against each other. -/

namespace Sys2Proof.Machine

/-- Settles O23: inside the domain VENC is the rounded scaled voltage by definition. -/
theorem vencResultInsideTheDomain : Obligations.VencResultInsideTheDomain := by
  intro v s lo hi
  have code : encodeCode params v = BitVec.ofInt 16
      (if 0 ≤ v then rnd .even (v * 32767 / 5) else rnd .even (v * 32768 / 5)) := by
    simp [encodeCode, encodeInt, params]
  rw [exec_venc_of_venc_ok (venc_of_mem_range params lo hi), code]

/-- Settles O24: outside the domain VENC raises its one error. -/
theorem vencRangeErrorOutsideTheDomain : Obligations.VencRangeErrorOutsideTheDomain := by
  intro v s outside
  refine exec_venc_of_not_mem_range (fun ⟨lo, hi⟩ => ?_) s
  rcases outside with below | above
  · exact absurd lo (not_le.2 below)
  · exact absurd hi (not_le.2 above)

theorem eq_encodeCode_of_venc_ok {p : Params} {v : Volt} {c : Code} (h : venc p v = .ok c) :
    (-5 ≤ v ∧ v ≤ 5) ∧ c = encodeCode p v := by
  by_cases inside : -5 ≤ v ∧ v ≤ 5
  · exact ⟨inside, Except.ok.inj (h.symm.trans (venc_of_mem_range p inside.1 inside.2))⟩
  · cases h.symm.trans (venc_of_not_mem_range p inside)

/-- R127: both half ranges meet at 0, whatever the two scales. -/
theorem encodeInt_nonneg (p : Params) {v : Volt} (nonneg : 0 ≤ v) : 0 ≤ encodeInt p v := by
  rw [encodeInt_of_nonneg p nonneg, ← rnd_intCast p.roundTies 0]
  exact rnd_mono _ (by push_cast; positivity)

theorem encodeInt_nonpos (p : Params) {v : Volt} (neg : v < 0) : encodeInt p v ≤ 0 := by
  rw [encodeInt_of_neg p neg, ← rnd_intCast p.roundTies 0]
  refine rnd_mono _ ?_
  have scaled : v * p.encNegScale ≤ 0 := mul_nonpos_of_nonpos_of_nonneg neg.le (Nat.cast_nonneg _)
  push_cast
  linarith

theorem encodeInt_mono (p : Params) {v w : Volt} (le : v ≤ w) : encodeInt p v ≤ encodeInt p w := by
  rcases lt_or_ge w 0 with wNeg | wNonneg
  · rw [encodeInt_of_neg p (le.trans_lt wNeg), encodeInt_of_neg p wNeg]
    refine rnd_mono _ ?_
    have scaled : v * p.encNegScale ≤ w * p.encNegScale := mul_le_mul_of_nonneg_right le (Nat.cast_nonneg _)
    linarith
  rcases lt_or_ge v 0 with vNeg | vNonneg
  · exact (encodeInt_nonpos p vNeg).trans (encodeInt_nonneg p wNonneg)
  · rw [encodeInt_of_nonneg p vNonneg, encodeInt_of_nonneg p wNonneg]
    exact rnd_mono _ (by linarith)

/-- R121: the rounded number of a voltage in the domain is a 16-bit one, for both scales of R129. -/
theorem toInt_encodeCode {p : Params} (scale : p.encNegScale ≤ 32768) {v : Volt} (lo : -5 ≤ v) (hi : v ≤ 5) :
    (encodeCode p v).toInt = encodeInt p v := by
  have low := encodeInt_mono p lo
  have high := encodeInt_mono p hi
  rw [encodeInt_neg_five] at low
  rw [encodeInt_five] at high
  exact BitVec.toInt_ofInt_eq_self (by decide) (by omega) (by omega)

theorem venc_vdec_eq_ok_iff {p : Params} (scale : p.encNegScale ≤ 32768) (c : Code) :
    venc p (vdec c) = .ok c ↔ encodeInt p (vdec c) = c.toInt := by
  obtain ⟨lo, hi⟩ := vdec_mem_range c
  rw [venc_of_mem_range p lo hi, ← toInt_encodeCode scale lo hi, BitVec.toInt_inj]
  exact ⟨Except.ok.inj, congrArg Except.ok⟩

/-- A code that is not negative scales back to itself: both directions use 32767 there. -/
theorem encodeInt_vdec_of_nonneg (p : Params) {c : Code} (nonneg : 0 ≤ c.toInt) : encodeInt p (vdec c) = c.toInt := by
  have nonnegRat : (0 : Rat) ≤ c.toInt := by exact_mod_cast nonneg
  have scaled : (c.toInt : Rat) * 5 / 32767 * 32767 / 5 = c.toInt := by ring
  rw [vdec_of_nonneg nonneg, encodeInt_of_nonneg p (by positivity), scaled, rnd_intCast]

/-- A negative code is scaled back by the ratio of the two negative scales. -/
theorem encodeInt_vdec_of_neg (p : Params) {c : Code} (neg : c.toInt < 0) :
    encodeInt p (vdec c) = rnd p.roundTies (c.toInt * p.encNegScale / 32768) := by
  have negRat : (c.toInt : Rat) < 0 := by exact_mod_cast neg
  have scaled : (c.toInt : Rat) * 5 / 32768 * p.encNegScale / 5 = c.toInt * p.encNegScale / 32768 := by ring
  rw [vdec_of_neg neg, encodeInt_of_neg p (by linarith), scaled]

/-- Settles O28: with both negative scales 32768 the ratio is 1. -/
theorem vencOfVdecIsIdentity : Obligations.VencOfVdecIsIdentity := by
  intro c
  rw [venc_vdec_eq_ok_iff (p := params) le_rfl]
  rcases lt_or_ge c.toInt 0 with neg | nonneg
  · have ratio : (c.toInt : Rat) * params.encNegScale / 32768 = c.toInt := by simp [params]
    rw [encodeInt_vdec_of_neg params neg, ratio, rnd_intCast]
  · exact encodeInt_vdec_of_nonneg params nonneg

/-- R129: with 32767 a negative code n is scaled to n - n / 32768, which is nearest to n down to -16384, where the tie
goes to the even n. -/
theorem rnd_even_literalScale_iff {n : Int} (neg : n < 0) : rnd .even (n * 32767 / 32768) = n ↔ -16384 ≤ n := by
  have negRat : (n : Rat) < 0 := by exact_mod_cast neg
  have gap : |(n : Rat) * 32767 / 32768 - n| = -n / 32768 := by
    rw [abs_of_nonneg (by linarith)]
    ring
  rw [rnd_eq_iff, Nearest, gap]
  rcases lt_trichotomy n (-16384) with below | rfl | above
  · have belowRat : (n : Rat) < -16384 := by exact_mod_cast below
    refine iff_of_false ?_ (not_le.2 below)
    rintro (near | ⟨tie, -⟩) <;> linarith
  · exact iff_of_true (.inr ⟨by norm_num, (by decide : Even (-16384 : Int))⟩) le_rfl
  · have aboveRat : (-16384 : Rat) < n := by exact_mod_cast above
    exact iff_of_true (.inl (by linarith)) above.le

/-- Settles O32: the negative codes from -16384 on are 0xC000 to 0xFFFF. -/
theorem literalNegativeScaleFailsOnOneQuarter : Obligations.LiteralNegativeScaleFailsOnOneQuarter := by
  intro c
  rw [venc_vdec_eq_ok_iff (p := { params with encNegScale := 32767 }) (by decide)]
  have pattern := BitVec.toInt_eq_toNat_cond c
  rcases lt_or_ge c.toInt 0 with neg | nonneg
  · have high : ¬ 2 * c.toNat < 2 ^ 16 := fun low => by rw [if_pos low] at pattern; omega
    rw [if_neg high] at pattern
    rw [encodeInt_vdec_of_neg _ neg]
    exact (rnd_even_literalScale_iff neg).trans (by omega)
  · have low : 2 * c.toNat < 2 ^ 16 := by by_contra high; rw [if_neg high] at pattern; omega
    exact iff_of_true (encodeInt_vdec_of_nonneg _ nonneg) (by omega)

theorem vdec_of_nonpos {c : Code} (nonpos : c.toInt ≤ 0) : vdec c = (c.toInt : Rat) * 5 / 32768 := by
  rcases nonpos.lt_or_eq with neg | zero
  · exact vdec_of_neg neg
  · rw [vdec_of_nonneg zero.ge, zero]; norm_num

/-- Settles O29: rounding is off by at most 1/2, and decoding multiplies that by the step of the same half range. -/
theorem vdecOfVencErrorBound : Obligations.VdecOfVencErrorBound := by
  intro v c encoded
  obtain ⟨⟨lo, hi⟩, rfl⟩ := eq_encodeCode_of_venc_ok encoded
  have value := toInt_encodeCode (p := params) le_rfl lo hi
  refine ⟨fun nonneg => ?_, fun neg => ?_⟩
  · rw [vdec_of_nonneg (value ▸ encodeInt_nonneg params nonneg), value, encodeInt_of_nonneg params nonneg]
    obtain ⟨low, high⟩ := rnd_dist_le params.roundTies (v * 32767 / 5)
    exact abs_le.2 ⟨by linarith, by linarith⟩
  · have scale : (params.encNegScale : Rat) = 32768 := rfl
    rw [vdec_of_nonpos (value ▸ encodeInt_nonpos params neg), value, encodeInt_of_neg params neg, scale]
    obtain ⟨low, high⟩ := rnd_dist_le params.roundTies (v * 32768 / 5)
    exact abs_le.2 ⟨by linarith, by linarith⟩

theorem vdec_strictMono {c d : Code} (lt : c.toInt < d.toInt) : vdec c < vdec d := by
  have ltRat : (c.toInt : Rat) < d.toInt := by exact_mod_cast lt
  rcases lt_or_ge d.toInt 0 with dNeg | dNonneg
  · rw [vdec_of_neg (lt.trans dNeg), vdec_of_neg dNeg]
    linarith
  rcases lt_or_ge c.toInt 0 with cNeg | cNonneg
  · have cNegRat : (c.toInt : Rat) < 0 := by exact_mod_cast cNeg
    have dNonnegRat : (0 : Rat) ≤ d.toInt := by exact_mod_cast dNonneg
    rw [vdec_of_neg cNeg, vdec_of_nonneg dNonneg]
    linarith
  · rw [vdec_of_nonneg cNonneg, vdec_of_nonneg dNonneg]
    linarith

/-- Settles O30: VDEC half range by half range, VENC by the order `rnd` keeps. -/
theorem codecKeepsOrder : Obligations.CodecKeepsOrder := by
  refine ⟨fun c d => vdec_strictMono, fun v w c d le encodedV encodedW => ?_⟩
  obtain ⟨⟨vLo, vHi⟩, rfl⟩ := eq_encodeCode_of_venc_ok encodedV
  obtain ⟨⟨wLo, wHi⟩, rfl⟩ := eq_encodeCode_of_venc_ok encodedW
  rw [toInt_encodeCode (p := params) le_rfl vLo vHi, toInt_encodeCode (p := params) le_rfl wLo wHi]
  exact encodeInt_mono params le

theorem vdec_inj {c d : Code} (same : vdec c = vdec d) : c = d := by
  rcases lt_trichotomy c.toInt d.toInt with lt | eq | gt
  · exact absurd same (vdec_strictMono lt).ne
  · exact BitVec.toInt_inj.1 eq
  · exact absurd same (vdec_strictMono gt).ne'

theorem vdec_max : vdec 0x7FFF = 5 := by
  have value : (0x7FFF : Code).toInt = 32767 := rfl
  rw [vdec_of_nonneg (by rw [value]; decide), value]
  norm_num

theorem vdec_min : vdec 0x8000 = -5 := by
  have value : (0x8000 : Code).toInt = -32768 := rfl
  rw [vdec_of_neg (by rw [value]; decide), value]
  norm_num

theorem vdec_zero : vdec 0x0000 = 0 := by
  have value : (0x0000 : Code).toInt = 0 := rfl
  rw [vdec_of_nonneg (by rw [value]), value]
  norm_num

/-- Settles O31: each anchor is taken at its code, and VDEC is injective. -/
theorem vdecRangeAndUniqueAnchors : Obligations.VdecRangeAndUniqueAnchors := by
  have only : ∀ (c d : Code) (v : Volt), vdec d = v → (vdec c = v ↔ c = d) := fun c d v at_d =>
    ⟨fun at_c => vdec_inj (at_c.trans at_d.symm), fun same => same ▸ at_d⟩
  intro c
  obtain ⟨lo, hi⟩ := vdec_mem_range c
  exact ⟨lo, hi, only c _ _ vdec_max, only c _ _ vdec_min, only c _ _ vdec_zero⟩

end Sys2Proof.Machine

/-! The status register decoder (42_status_decoder.md): the ignored bits, and OHENC against XSTATE. -/

namespace Sys2Proof.Machine

/-- Settles O42: SDEC reads each word through the truncation of its own field. -/
theorem ignoredBitsDoNotAffectDecodedFields : Obligations.IgnoredBitsDoNotAffectDecodedFields := by
  intro a b dac sticky oneHot div
  simp only [sdec_eq_slices, xstate_eq_lowestSet_setWidth, dac, sticky, oneHot, div]

theorem exec_ohenc (n : Nat) (s : State) : exec (.ohenc n) s = .next (onlyReplied s (.ok (.nibble (oneHot n)))) :=
  congrArg Host.Outcome.next (pureAnswer_eq s (.nibble (oneHot n)))

/-- R198: the code of state n has bit n - 1 alone. -/
theorem oneHot_getLsbD {n k : Nat} (state : n ≤ 4) (below : k < 4) : (oneHot n).getLsbD k = decide (n = k + 1) := by
  interval_cases n <;> interval_cases k <;> rfl

theorem lowestSet_oneHot {n : Nat} (state : n ≤ 4) : (lowestSet (oneHot n)).val = n := by
  interval_cases n <;> rfl

theorem xstate_oneHot {n : Nat} (state : n ≤ 4) : (xstate ((oneHot n).setWidth 32)).val = n := by
  rw [xstate_eq_lowestSet_setWidth, BitVec.setWidth_setWidth_of_le _ (by decide), BitVec.setWidth_eq,
    lowestSet_oneHot state]

/-- At most one bit of the vector is set. -/
def AtMostOneSet {width : Nat} (v : BitVec width) : Prop :=
  ∀ a b, a < width → b < width → v.getLsbD a = true → v.getLsbD b = true → a = b

theorem atMostOneSet_oneHot {n : Nat} (state : n ≤ 4) : AtMostOneSet (oneHot n) := by
  intro a b aBelow bBelow aSet bSet
  rw [oneHot_getLsbD state aBelow, decide_eq_true_iff] at aSet
  rw [oneHot_getLsbD state bBelow, decide_eq_true_iff] at bSet
  omega

/-- R198: OHENC undoes XSTATE exactly where at most one bit of the field is set, the lowest one. -/
theorem oneHot_lowestSet_iff (b : Nibble) : oneHot (lowestSet b).val = b ↔ AtMostOneSet b := by
  have state : (lowestSet b).val ≤ 4 := Nat.le_of_lt_succ (lowestSet b).isLt
  refine ⟨fun same => same ▸ atMostOneSet_oneHot state, fun one => BitVec.eq_of_getLsbD_eq fun k below => ?_⟩
  rw [oneHot_getLsbD state below, Bool.eq_iff_iff, decide_eq_true_iff, lowestSet_eq_succ_iff b below]
  refine ⟨fun ⟨set, _⟩ => set, fun set => ⟨set, fun a lower => Bool.eq_false_iff.2 fun aSet => ?_⟩⟩
  exact lower.ne (one a k (lower.trans below) below aSet set)

/-- Settles O43: bit by bit for the code, through the field's truncation for the two laws. -/
theorem ohencResultAndLaws : Obligations.OhencResultAndLaws := by
  refine ⟨fun n s state => ⟨oneHot n, exec_ohenc n s, fun k => oneHot_getLsbD state, xstate_oneHot state⟩, fun w => ?_⟩
  rw [xstate_eq_lowestSet_setWidth, oneHot_lowestSet_iff]
  refine forall₄_congr fun a b aBelow bBelow => ?_
  rw [getLsbD_setWidth_of_lt w aBelow, getLsbD_setWidth_of_lt w bBelow]

end Sys2Proof.Machine
